-- ==== Sys2Proof/Machine/Codec.lean ====
section
/-!
DEFINITION. The word codec (40_word_codec.md): stateless functions between the value of a beat and the sequence of
words by which it travels.
-/

namespace Sys2Proof.Machine

/-- `NARROW_MAX` (00_scope.md R8): the widest `DW` carried as a single value. -/
def narrowMax : Nat := 64

/-- `NW = ceil(DW / 32)`, the words of a wide beat (R100). -/
def wordsPerBeat (dw : Nat) : Nat := (dw + 31) / 32

/-- `pack(v, DW)` (R102). Wide it is the formula at every `v` (R102 c, d). Narrow it has a result under the precondition
`v < 2^DW` only (R105): what lies outside is not settled and refused (D20, U2; entry 14), so there is none. -/
def pack (v dw : Nat) : Option (List Nat) :=
  if narrowMax < dw then some ((List.range (wordsPerBeat dw)).map fun i => (v >>> (32 * i)) &&& 0xFFFFFFFF)
  else if v < 2 ^ dw then some [v] else none

/-- The OR of `words[i] << (32 * i)`, `i` counted from the given index (R103). -/
def orWords : Nat → List Nat → Nat
  | _, [] => 0
  | i, w :: ws => (w <<< (32 * i)) ||| orWords (i + 1) ws

/-- `unpack(words, DW)` (R103): "the lone element", or the OR of the shifted words. The block calls it on the words of
a bus beat only; on an empty narrow sequence, which never arises, it is the empty sum (U3; entry 14). -/
def unpack (words : List Nat) (dw : Nat) : Nat :=
  if dw ≤ narrowMax then words.headD 0 else orWords 0 words
end Sys2Proof.Machine
end

