-- ==== Sys2Proof/Config.lean ====
section
/-!
DEFINITION. What is fixed for an instance: the configuration record a CONSTRUCT fixes (10_state.md R20) and the
parameters the spec leaves OPEN (00_scope.md R8; 92_eei_decisions.md D4, D6, D16, D24).
The spec leaves no result undefined after which the block goes on, so there is no free value here.
-/

namespace Sys2Proof

/-- `BusConfig` of 10_state.md R20: "Immutable after construction". -/
structure BusConfig where
  /-- `IFACE`: prefixed to every signal name, no effect on behaviour (30_encoding.md R80). -/
  interface_name : String
  /-- `DW`: data bus width in bits. -/
  data_width_bits : Nat
  /-- `ADDR_W`: address width in bits. -/
  addr_width_bits : Nat
  deriving DecidableEq, Repr

/-- The OPEN parameters of the spec (92_eei_decisions.md, last paragraph), fixed at elaboration.
DESIGN CHOICE, entry 13: they are data of State, so that statements hold for every value. Queue depths, the
remaining OPEN parameter (D5), are unbounded and have no field. -/
structure Params where
  /-- `LEN_W`: width of `arlen` and `awlen` (D6). -/
  len_w : Nat
  /-- `SAME_TICK_VISIBLE`: a push made by AR or AW at a tick is seen by R, B, W at that tick (D4). -/
  same_tick_visible : Bool
  /-- `ENFORCE_OKAY`: B faults on a non-OKAY response (D16). -/
  enforce_okay : Bool
  /-- The loop shape of READ and WRITE (D24): `false` ticks first and then polls, `true` polls first. -/
  poll_first : Bool
  deriving DecidableEq, Repr

/-- The values the spec takes for the OPEN parameters (00_scope.md R8; D24: tick first). -/
def Params.spec : Params :=
  { len_w := 8, same_tick_visible := false, enforce_okay := true, poll_first := false }

end Sys2Proof
end

