-- ==== Sys2Proof/Word.lean ====
section
/-!
DEFINITION. The plain data types of the block: bytes of a stimulus, transaction IDs and the sixteen-slot
arrays they index. Every other number of the spec is an exact natural number (00_scope.md R10).
-/

namespace Sys2Proof

/-- One byte of a command word or of a sampled selector (30_encoding.md R85). -/
abbrev Byte := BitVec 8

/-- A transaction ID, "uint(0..15)": the value of a 4-bit ID signal (30_encoding.md R71, R72, R75). -/
abbrev TxnId := Fin 16

/-- An array indexed by transaction ID: sixteen slots, a fixed number (41_ledger.md R110). -/
abbrev Slots (α : Type) := Vector α 16

end Sys2Proof
end

