-- ==== Sys2Proof/Syntax.lean ====
section
/-!
DEFINITION. The operations of the block, one constructor of `Instr` for each of the 26 rows of
spec/opcode_table.json, and the reasons a decoder has to reject a word.
-/

namespace Sys2Proof

/-- Where a word stands: the host's command interface, the clock edge, or the handshake of one channel. The
selector patterns of 30_encoding.md R79 to R84 are told apart by the signals they are made of, which is this port.
DESIGN CHOICE, entry 2: the port is data beside the word. -/
inductive Port where
  | host | clock | ar | r | aw | w | b
  deriving DecidableEq, Repr

/-- The ten input signals sampled at a tick (10_state.md R40, 46_cycle_step.md R192). `rdata` is the value on the
`DW` data wires. -/
structure Inputs where
  arready : Bool
  rvalid : Bool
  rdata : Nat
  rid : TxnId
  rlast : Bool
  awready : Bool
  wready : Bool
  bvalid : Bool
  bid : TxnId
  bresp : BitVec 2
  deriving DecidableEq, Repr

/-- One constructor for each row of the opcode table. Host commands carry the operands of their call
(30_encoding.md R91), as natural numbers: a call, unlike a command word, can carry an ID above 15. An event carries
the bits of its pattern that do not take part in the selection and the peer's data that the event reads. -/
inductive Instr where
  /-- SEND_READ, 45_host_commands.md R172. -/
  | sendRead (addr length_bytes id : Nat)
  /-- RECV_READ, R173. -/
  | recvRead (id : Nat)
  /-- SEND_WRITE, R174. -/
  | sendWrite (addr : Nat) (data : List Nat) (id : Nat)
  /-- RECV_WRITE, R175. -/
  | recvWrite (id : Nat)
  /-- READ, R176. -/
  | read (addr length_bytes id : Nat)
  /-- WRITE, R177. -/
  | write (addr : Nat) (data : List Nat) (id : Nat)
  /-- INIT, R171. -/
  | init
  /-- CONSTRUCT, R170; the interface name is given out of band (30_encoding.md R85). -/
  | construct (data_width_bits addr_width_bits : Nat)
  /-- AR.IDLE, pattern `0r`, 42_read_address_channel.md R123. -/
  | arIdle (arready : Bool)
  /-- AR.STALL, pattern `10`, R124. -/
  | arStall
  /-- AR.ACCEPT, pattern `11`, R125. -/
  | arAccept
  /-- R.NOBEAT, pattern `0vl`: `rready_q = 0`, 43_read_data_channel.md R132. -/
  | rNobeatNotReady (rvalid rlast : Bool)
  /-- R.NOBEAT, pattern `10l`: `rready_q = 1`, `in.rvalid = 0`, R132. -/
  | rNobeatNotValid (rlast : Bool)
  /-- R.BEAT, pattern `110`, R134. -/
  | rBeat (rid : TxnId) (rdata : Nat)
  /-- R.LAST, pattern `111`, R135. -/
  | rLast (rid : TxnId) (rdata : Nat)
  /-- AW.IDLE, pattern `0r`, 44_write_channels.md R142. -/
  | awIdle (awready : Bool)
  /-- AW.STALL, pattern `10`, R143. -/
  | awStall
  /-- AW.ACCEPT, pattern `11`, R144. -/
  | awAccept
  /-- W.IDLE, pattern `0r`, R148. -/
  | wIdle (wready : Bool)
  /-- W.STALL, pattern `10`, R149. -/
  | wStall
  /-- W.ACCEPT, pattern `11`, R151. -/
  | wAccept
  /-- B.NOBEAT, pattern `0v`: `bready_q = 0`, R156. -/
  | bNobeatNotReady (bvalid : Bool)
  /-- B.NOBEAT, pattern `10`: `bready_q = 1`, `in.bvalid = 0`, R156. -/
  | bNobeatNotValid
  /-- B.RESP, pattern `11`, R158. -/
  | bResp (bid : TxnId) (bresp : BitVec 2)
  /-- RESET, `aresetn = 0` at the edge, 70_reset_and_hazards.md R250. -/
  | reset
  /-- TICK, `aresetn = 1` at the edge, 46_cycle_step.md R190. -/
  | tick (inp : Inputs)
  deriving DecidableEq, Repr

/-- Why a decoder gives a word no instruction. Each is a refusal: safe, since nothing can be proved through it. -/
inductive Reject where
  /-- The bytes end before the word does. -/
  | truncated
  /-- Op 0x0 or 0x9 to 0xF (30_encoding.md R89). -/
  | reservedOp (op : Nat)
  /-- A non-zero `id` field in INIT or CONSTRUCT (R89). -/
  | reservedId (op : Nat)
  /-- A selector byte with a bit set that no selecting signal stands on (entry 3). -/
  | badSelector
  /-- An operand byte with a bit set that no signal stands on (entry 3). -/
  | badOperand
  /-- A payload is announced and there is no instance whose `DW` gives the width of its fields (entry 3). -/
  | noBeatWidth
  deriving DecidableEq, Repr

end Sys2Proof
end

