-- ==== Sys2Proof/Machine/State.lean ====
section
/-!
DEFINITION. The state of one Master instance (10_state.md R20 to R39), under the spec's own names, with what stands at
its interfaces; the reasons a step can stop; and the state after reset (70_reset_and_hazards.md R251).
-/

namespace Sys2Proof.Machine

/-- A queued read request (10_state.md R21). -/
structure PendingRequest where
  address : Nat
  burst_len_minus1 : Nat
  id : TxnId
  deriving DecidableEq, Repr

/-- A queued write request: a PendingRequest "additionally carrying the payload" (R29). -/
structure WriteRequest where
  address : Nat
  burst_len_minus1 : Nat
  id : TxnId
  beats : List Nat
  deriving DecidableEq, Repr

/-- A write burst whose address has been accepted (R33). -/
structure WBurst where
  beats : List Nat
  byte_count : Nat
  deriving DecidableEq, Repr

/-- The five causes of a ProtocolViolation (60_exceptions.md R222). -/
inductive Cause where
  | RD_NO_OUTSTANDING | RD_ID_CHANGED | RD_LENGTH_MISMATCH | WR_NO_OUTSTANDING | WR_ERROR_RESPONSE
  deriving DecidableEq, Repr

/-- What `fault` holds once a ProtocolViolation is raised: the cause and `info = {id, expected, got}`, fields not
listed for a cause being 0 (R223). -/
structure FaultRecord where
  cause : Cause
  id : TxnId
  expected : Nat
  got : Nat
  deriving DecidableEq, Repr

/-- What a command returns (00_scope.md R14, 30_encoding.md R86). -/
inductive Reply where
  | ok
  | okBurst (burst : List Nat)
  | notReady
  | invalidArgument
  deriving DecidableEq, Repr

/-- The blocking wrapper that has not returned yet, inside its loop of tick and poll (45_host_commands.md R176,
R177; entry 7). -/
inductive Waiting where
  | read (id : TxnId)
  | write (id : TxnId)
  deriving DecidableEq, Repr

/-- Bytes presented at one port: command words in the order issued (R178), or the word of a clock edge or event. -/
structure Stimulus where
  port : Port
  bytes : List Byte
  deriving DecidableEq, Repr

/-- The block, and what stands at its interfaces. -/
structure State where
  /-- The OPEN parameters; written by nothing (entry 13). -/
  params : Params
  /-- The interface name given out of band to CONSTRUCT (R85); written by nothing (entry 5). -/
  iface_strap : String
  /-- What the host, the clock and the peer will present, next first (entry 1). -/
  stimuli : List Stimulus
  /-- What the last command returned; `none` while none has, or while a wrapper runs (entry 6). -/
  reply : Option Reply
  /-- The blocking wrapper in progress (entry 7). -/
  waiting : Option Waiting
  /-- The configuration; `none` while no instance exists (R20, 45_host_commands.md R179). -/
  cfg : Option BusConfig
  /-- R22. -/
  ar_queue : List PendingRequest
  /-- R23. -/
  rd_pending : Slots (List Nat)
  /-- R24. -/
  rd_completed : Slots (List (List Nat))
  /-- R25. -/
  r_burst_data : List Nat
  /-- R26. -/
  r_burst_id : TxnId
  /-- R27; also the AR machine's state, `true` being REQUEST. -/
  arvalid_q : Bool
  /-- R27, `ADDR_W` bits. -/
  araddr_q : Nat
  /-- R27, `LEN_W` bits. -/
  arlen_q : Nat
  /-- R27. -/
  arid_q : TxnId
  /-- R28. -/
  rready_q : Bool
  /-- R30. -/
  aw_queue : List WriteRequest
  /-- R31. -/
  wr_pending : Slots (List Nat)
  /-- R32, response codes. -/
  wr_completed : Slots (List Nat)
  /-- R33. -/
  w_queue : List WBurst
  /-- R34. -/
  w_idx : Nat
  /-- R35; also the AW machine's state. -/
  awvalid_q : Bool
  /-- R35, `ADDR_W` bits. -/
  awaddr_q : Nat
  /-- R35, `LEN_W` bits. -/
  awlen_q : Nat
  /-- R35. -/
  awid_q : TxnId
  /-- R36; also the W machine's state, `true` being SEND. -/
  wvalid_q : Bool
  /-- R36, the value on the `DW` data wires. -/
  wdata_q : Nat
  /-- R36. -/
  wlast_q : Bool
  /-- R37. -/
  bready_q : Bool
  /-- R38: sticky, `none` until a ProtocolViolation is raised. -/
  fault : Option FaultRecord
  /-- R39. -/
  started : Bool
  deriving DecidableEq, Repr

/-- Why a step stops with a fault. The block has no fault of this kind: its ProtocolViolation is recorded in
`State.fault` and the machine goes on (entry 8). These are raised where a rule takes the front of an empty FIFO or an
element past the end, which 00_scope.md R12 never writes, or calls `pack` where it has no result; only states no run
reaches do so. Safe (entry 12). -/
inductive Fault where
  /-- AR.ACCEPT, or a TICK that performs it, with `ar_queue` empty. Safe. -/
  | arQueueEmpty
  /-- AW.ACCEPT, or a TICK that performs it, with `aw_queue` empty. Safe. -/
  | awQueueEmpty
  /-- W.ACCEPT, or a TICK that performs it, with `w_queue` empty. Safe. -/
  | wQueueEmpty
  /-- The W drive with `w_idx` past the end of the front burst (any W event, or a TICK). Safe. -/
  | wIndexPastEnd
  /-- The W drive of a beat of `2^DW` or more on a narrow bus, which `pack` refuses (U2; entry 14). Safe. -/
  | wBeatTooWide
  /-- R.LAST, or a TICK that performs it, with nothing outstanding for the burst's ID. Safe. -/
  | rdPendingEmpty
  deriving DecidableEq, Repr

/-- Why a step has no meaning. A refusal "is the spec's device for inputs about which the source is silent, and is not
a behaviour of the hardware" (00_scope.md R14). All are safe: nothing can be proved through them. -/
inductive Refusal where
  /-- Raised by `exec` for an instruction without a meaning; no arm does now. Safe. -/
  | notModelled (mnemonic : String)
  /-- `step`: the bytes presented are no word (30_encoding.md R89; entry 3). Safe. -/
  | undecodable (why : Reject)
  /-- `step`: nothing is presented (entry 1). Safe. -/
  | nothingPresented
  /-- Every command but CONSTRUCT, while no instance exists (R179, D30). Safe. -/
  | noInstance
  /-- INIT on a started instance (R179, D30). Safe. -/
  | alreadyStarted
  /-- The six transaction commands before INIT (R179, D30). Safe. -/
  | notStarted
  /-- Every command after a ProtocolViolation (46_cycle_step.md R196). Safe. -/
  | afterFault
  /-- Every command while a blocking wrapper runs (R176 e; entry 7). Safe. -/
  | hostBlocked
  /-- A call with an ID above 15 (R179, D8). Safe. -/
  | idOutOfRange
  /-- SEND_READ, READ with `length_bytes = 0` (R179, D9). Safe. -/
  | zeroLength
  /-- SEND_WRITE, WRITE with empty `data` (R179, D9). Safe. -/
  | emptyPayload
  /-- SEND_WRITE, WRITE with a beat of `2^DW` or more (R179, D19). Safe. -/
  | beatTooWide
  /-- A burst beyond the `ADDR_W`-bit space (R179, D7). Safe. -/
  | addressTooWide
  /-- More than `2^LEN_W` beats (R179, D6). Safe. -/
  | tooManyBeats
  /-- TICK, R.BEAT, R.LAST with an `rdata` that `DW` wires cannot carry (46_cycle_step.md R192; entry 14). Safe. -/
  | rdataTooWide
  /-- A channel event whose pattern's register bit is not the register's value (entry 11). Safe. -/
  | eventNotSelected
  deriving DecidableEq, Repr

/-- How a channel machine's event ends other than by completing: it raises a ProtocolViolation, or it is in a state no
run reaches. -/
inductive Halt where
  | violation (v : FaultRecord)
  | corrupt (f : Fault)
  deriving DecidableEq, Repr

/-- The outcome of one operation or one step. -/
abbrev Result := Host.Outcome State Fault Refusal

/-- The machine right after reset (70_reset_and_hazards.md R251): every FIFO empty, every output register 0,
`fault = none`, `started = false`. No CONSTRUCT has been made, so there is no instance (entry 4). The fields that are
not the spec's (`params`, `iface_strap`, `stimuli`, `reply`, `waiting`) are at the values of entries 13, 5, 1, 6, 7. -/
def State.reset : State :=
  { params := Params.spec, iface_strap := "", stimuli := [], reply := none, waiting := none, cfg := none,
    ar_queue := [], rd_pending := Vector.replicate 16 [], rd_completed := Vector.replicate 16 [],
    r_burst_data := [], r_burst_id := 0,
    arvalid_q := false, araddr_q := 0, arlen_q := 0, arid_q := 0, rready_q := false,
    aw_queue := [], wr_pending := Vector.replicate 16 [], wr_completed := Vector.replicate 16 [],
    w_queue := [], w_idx := 0,
    awvalid_q := false, awaddr_q := 0, awlen_q := 0, awid_q := 0,
    wvalid_q := false, wdata_q := 0, wlast_q := false, bready_q := false,
    fault := none, started := false }

end Sys2Proof.Machine
end

