-- ==== Sys2Proof/Machine/Flags.lean ====
section
/-!
DEFINITION. The one-bit conditions and the codes of the block: acceptance on each channel (valid and ready both
asserted), the selection of events by the handshake bits (30_encoding.md R79 to R83), the codes of causes
(60_exceptions.md R222) and of replies (30_encoding.md R86). The one sticky flag is `fault` (10_state.md R45).
-/

namespace Sys2Proof.Machine

/-- A read request is accepted (42_read_address_channel.md R122). -/
def arAccepted (s : State) (inp : Inputs) : Bool := s.arvalid_q && inp.arready

/-- A read beat is accepted (43_read_data_channel.md R131). -/
def rAccepted (s : State) (inp : Inputs) : Bool := s.rready_q && inp.rvalid

/-- A write request is accepted (44_write_channels.md R140). -/
def awAccepted (s : State) (inp : Inputs) : Bool := s.awvalid_q && inp.awready

/-- A write beat is accepted (44_write_channels.md R146). -/
def wAccepted (s : State) (inp : Inputs) : Bool := s.wvalid_q && inp.wready

/-- A response is accepted (44_write_channels.md R154). -/
def bAccepted (s : State) (inp : Inputs) : Bool := s.bready_q && inp.bvalid

/-- The AR event that `{arvalid_q, in.arready}` selects (R79). -/
def arEvent (s : State) (inp : Inputs) : Instr :=
  match s.arvalid_q, inp.arready with
  | false, r => .arIdle r
  | true, false => .arStall
  | true, true => .arAccept

/-- The R event that `{rready_q, in.rvalid, in.rlast}` selects (R81). -/
def rEvent (s : State) (inp : Inputs) : Instr :=
  match s.rready_q, inp.rvalid, inp.rlast with
  | false, v, l => .rNobeatNotReady v l
  | true, false, l => .rNobeatNotValid l
  | true, true, false => .rBeat inp.rid inp.rdata
  | true, true, true => .rLast inp.rid inp.rdata

/-- The AW event that `{awvalid_q, in.awready}` selects (R79). -/
def awEvent (s : State) (inp : Inputs) : Instr :=
  match s.awvalid_q, inp.awready with
  | false, r => .awIdle r
  | true, false => .awStall
  | true, true => .awAccept

/-- The W event that `{wvalid_q, in.wready}` selects (R82). -/
def wEvent (s : State) (inp : Inputs) : Instr :=
  match s.wvalid_q, inp.wready with
  | false, r => .wIdle r
  | true, false => .wStall
  | true, true => .wAccept

/-- The B event that `{bready_q, in.bvalid}` selects (R83). -/
def bEvent (s : State) (inp : Inputs) : Instr :=
  match s.bready_q, inp.bvalid with
  | false, v => .bNobeatNotReady v
  | true, false => .bNobeatNotValid
  | true, true => .bResp inp.bid inp.bresp

/-- The cause number (R222). -/
def causeCode : Cause → Nat
  | .RD_NO_OUTSTANDING => 1
  | .RD_ID_CHANGED => 2
  | .RD_LENGTH_MISMATCH => 3
  | .WR_NO_OUTSTANDING => 4
  | .WR_ERROR_RESPONSE => 5

/-- The two-bit status code of a reply (R86); 3 is never returned. -/
def statusCode : Reply → BitVec 2
  | .ok => 0
  | .okBurst _ => 0
  | .notReady => 1
  | .invalidArgument => 2

/-- The fields that follow the status: the Burst is "a count `nbeats` and then `nbeats` logical words" (R86). -/
def replyFields : Reply → List Nat
  | .okBurst burst => burst.length :: burst
  | _ => []

end Sys2Proof.Machine
end

