-- ==== Sys2Proof/Machine/Operands.lean ====
section
/-!
DEFINITION. What the operands of a command come to: the widths of the instance, the validations of the source
(45_host_commands.md R170, R172, R174), operand assembly (30_encoding.md R87) and the admitted domain (R179).
-/

namespace Sys2Proof.Machine

/-- `BOUNDARY` (00_scope.md R8). -/
def boundary : Nat := 4096

/-- `BYTES = DW / 8` (00_scope.md R8). -/
def BYTES (c : BusConfig) : Nat := c.data_width_bits / 8

/-- `DW` of the instance, 0 while there is none. -/
def DW (s : State) : Nat := match s.cfg with | none => 0 | some c => c.data_width_bits

/-- `ADDR_W` of the instance, 0 while there is none. -/
def ADDR_W (s : State) : Nat := match s.cfg with | none => 0 | some c => c.addr_width_bits

/-- `BYTES` of the instance, the width of a beat in bytes, 0 while there is none. -/
def beatBytes (s : State) : Nat := match s.cfg with | none => 0 | some c => BYTES c

/-- A configuration is well formed (00_scope.md R9). -/
def configWellFormed (c : BusConfig) : Bool :=
  c.data_width_bits % 8 == 0 && decide (8 ≤ c.data_width_bits) && decide (c.addr_width_bits ≤ 64)

/-- The source's three validations of a request (R172, R174): address alignment, length alignment, and no crossing of
a 4096-byte boundary (IA1, IA2, IA3 of 60_exceptions.md R221). -/
def requestValid (c : BusConfig) (addr length_bytes : Nat) : Bool :=
  addr % BYTES c == 0 && length_bytes % BYTES c == 0 && decide (addr % boundary + length_bytes ≤ boundary)

/-- `burst_len_minus1` of a read: "`arlen = (8*length_bytes/data_width_bits) - 1`" (R87 a). -/
def readLen (c : BusConfig) (length_bytes : Nat) : Nat := 8 * length_bytes / c.data_width_bits - 1

/-- `length_bytes` of a write: that of its payload (R87 c). -/
def payloadLength (c : BusConfig) (data : List Nat) : Nat := data.length * BYTES c

/-- The beat count of a request, `burst_len_minus1 + 1` (R87 b). -/
def beatCount (burst_len_minus1 : Nat) : Nat := burst_len_minus1 + 1

/-- The value fits the `DW` data wires. -/
def fitsBus (s : State) (v : Nat) : Bool := decide (v < 2 ^ DW s)

/-- What a SEND_READ or SEND_WRITE comes to once it has been checked. -/
inductive Checked (α : Type) where
  /-- A validation of the source fails: `InvalidArgument`. -/
  | invalid
  /-- Outside the admitted domain. -/
  | outside (r : Refusal)
  /-- Admitted. -/
  | request (req : α)
  deriving DecidableEq, Repr

/-- The admitted-domain conditions common to the transaction commands: started, and an ID of 0 to 15 (R179). -/
def transactionDomain (s : State) (id : Nat) : Except Refusal TxnId :=
  if !s.started then .error .notStarted
  else if h : id < 16 then .ok ⟨id, h⟩ else .error .idOutOfRange

/-- The admitted-domain conditions on where a burst lies and how long it is (R179, D7, D6). -/
def spanDomain (s : State) (c : BusConfig) (addr length_bytes burst_len_minus1 : Nat) : Except Refusal Unit :=
  if 2 ^ c.addr_width_bits < addr + length_bytes then .error .addressTooWide
  else if 2 ^ s.params.len_w ≤ burst_len_minus1 then .error .tooManyBeats
  else .ok ()

/-- SEND_READ's checks and operand assembly (R172): the validations first, then the admitted domain (R179). -/
def checkRead (s : State) (c : BusConfig) (addr length_bytes id : Nat) : Checked PendingRequest :=
  if !requestValid c addr length_bytes then .invalid
  else match transactionDomain s id with
    | .error r => .outside r
    | .ok k =>
      if length_bytes = 0 then .outside .zeroLength
      else match spanDomain s c addr length_bytes (readLen c length_bytes) with
        | .error r => .outside r
        | .ok _ => .request { address := addr, burst_len_minus1 := readLen c length_bytes, id := k }

/-- SEND_WRITE's checks and operand assembly (R174). -/
def checkWrite (s : State) (c : BusConfig) (addr : Nat) (data : List Nat) (id : Nat) : Checked WriteRequest :=
  if !requestValid c addr (payloadLength c data) then .invalid
  else match transactionDomain s id with
    | .error r => .outside r
    | .ok k =>
      if data = [] then .outside .emptyPayload
      else if !data.all (fun v => decide (v < 2 ^ c.data_width_bits)) then .outside .beatTooWide
      else match spanDomain s c addr (payloadLength c data) (data.length - 1) with
        | .error r => .outside r
        | .ok _ => .request { address := addr, burst_len_minus1 := data.length - 1, id := k, beats := data }

end Sys2Proof.Machine
end

