-- ==== Sys2Proof/Machine/Ops.lean ====
section
/-!
DEFINITION. The named operations over the state: the sixteen-slot arrays, the ledger primitives (41_ledger.md R111 to
R115), raising a ProtocolViolation (60_exceptions.md R226) and the way out of it, RESET (70_reset_and_hazards.md R250),
and how an event or a command ends.
-/

namespace Sys2Proof.Machine

/-! ## Slots: "An operation on slot `k` reads and writes slot `k` only" (R110) -/

/-- Put `x` into slot `k`. -/
def setSlot {α : Type} (v : Slots α) (k : TxnId) (x : α) : Slots α := v.set k.val x k.isLt

/-- `q[k].push_back(x)`. -/
def pushSlot {α : Type} (v : Slots (List α)) (k : TxnId) (x : α) : Slots (List α) := setSlot v k (v[k] ++ [x])

/-- `q[k].pop_front()`. -/
def popSlot {α : Type} (v : Slots (List α)) (k : TxnId) : Slots (List α) := setSlot v k v[k].tail

/-! ## The transaction ledger -/

/-- The side of the ledger: "an independent set of ID-indexed queues" each (R116). -/
inductive Side where
  | read | write
  deriving DecidableEq, Repr

/-- The pending array of a side. -/
def pendingOf (side : Side) (s : State) : Slots (List Nat) :=
  match side with
  | .read => s.rd_pending
  | .write => s.wr_pending

/-- `push_pending(side, k, n)` (R111). -/
def pushPending (side : Side) (k : TxnId) (n : Nat) (s : State) : State :=
  match side with
  | .read => { s with rd_pending := pushSlot s.rd_pending k n }
  | .write => { s with wr_pending := pushSlot s.wr_pending k n }

/-- `has_pending(side, k)` (R112). -/
def hasPending (side : Side) (k : TxnId) (s : State) : Bool := !((pendingOf side s)[k]).isEmpty

/-- `front_pending(side, k)` (R112), `none` where it is not called. -/
def frontPending (side : Side) (k : TxnId) (s : State) : Option Nat := ((pendingOf side s)[k]).head?

/-- `pop_pending(side, k)` (R113). -/
def popPending (side : Side) (k : TxnId) (s : State) : State :=
  match side with
  | .read => { s with rd_pending := popSlot s.rd_pending k }
  | .write => { s with wr_pending := popSlot s.wr_pending k }

/-- `push_completed(read, k, item)`, the item a Burst (R114). -/
def pushCompletedRead (k : TxnId) (burst : List Nat) (s : State) : State :=
  { s with rd_completed := pushSlot s.rd_completed k burst }

/-- `push_completed(write, k, item)`, the item a response code (R114). -/
def pushCompletedWrite (k : TxnId) (code : Nat) (s : State) : State :=
  { s with wr_completed := pushSlot s.wr_completed k code }

/-- `take_completed(read, k)` (R115): NotReady (`none`), which writes nothing, or OK with the front Burst and the state
without it. -/
def takeCompletedRead (k : TxnId) (s : State) : Option (List Nat × State) :=
  match s.rd_completed[k] with
  | [] => none
  | burst :: _ => some (burst, { s with rd_completed := popSlot s.rd_completed k })

/-- `take_completed(write, k)` (R115): NotReady (`none`), which writes nothing, or OK with the front response code and
the state without it. -/
def takeCompletedWrite (k : TxnId) (s : State) : Option (Nat × State) :=
  match s.wr_completed[k] with
  | [] => none
  | code :: _ => some (code, { s with wr_completed := popSlot s.wr_completed k })

/-! ## ProtocolViolation: entry, and the only way out -/

/-- Fault entry (60_exceptions.md R226): `fault` records the cause and its info; nothing is saved for a handler, no
control goes anywhere. Applied to the state before the faulting tick (46_cycle_step.md R195, D23; entry 8). -/
def takeViolation (v : FaultRecord) (s : State) : State := { s with fault := some v }

/-- Every item of 10_state.md R22 to R39 at its reset value, with the configuration given (R170, R250). What stands
outside the block (`params`, `iface_strap`, `stimuli`) stays; a wrapper in progress is abandoned (entry 7). -/
def freshInstance (cfg : Option BusConfig) (s : State) : State :=
  { State.reset with params := s.params, iface_strap := s.iface_strap, stimuli := s.stimuli, cfg := cfg }

/-! ## How an event ends -/

/-- An event or a tick made from state `s` ends: it completes, it raises a ProtocolViolation, or it was in a state no
run reaches. -/
def settle (s : State) (r : Except Halt State) : Result :=
  match r with
  | .ok t => .next t
  | .error (.violation v) => .next (takeViolation v s)
  | .error (.corrupt f) => .fault f

/-- The machines run: INIT has been made and no ProtocolViolation raised (46_cycle_step.md R190, first two lines). -/
def running (s : State) : Bool := s.started && s.fault.isNone

/-- One channel event by itself (entry 11): the first two lines of TICK, then the selection, then the event. -/
def channelEvent (selected : Bool) (event : State → Except Halt State) (s : State) : Result :=
  if !running s then .next s
  else if !selected then .refused .eventNotSelected
  else settle s (event s)

/-- `in.rdata` as the snapshot presents it, `pack(d, DW)` of the value on the data wires (40_word_codec.md R106); none
where `DW` wires cannot carry the value (46_cycle_step.md R192; entry 14). -/
def snapshotWords (s : State) (rdata : Nat) : Option (List Nat) :=
  if fitsBus s rdata then pack rdata (DW s) else none

/-- The same for an event that reads the words of `in.rdata`. -/
def dataEvent (selected : Bool) (rdata : Nat) (event : List Nat → State → Except Halt State) (s : State) : Result :=
  if !running s then .next s
  else
    match snapshotWords s rdata with
    | none => .refused .rdataTooWide
    | some words => channelEvent selected (event words) s

/-! ## How a command ends -/

/-- The command returns. -/
def respond (r : Reply) (s : State) : State := { s with reply := some r }

/-- What keeps the host from issuing any command: a wrapper that has not returned (R176 e), or a ProtocolViolation
(46_cycle_step.md R196: "every host command is refused"; entry 9). -/
def commandGate (s : State) : Option Refusal :=
  if s.waiting.isSome then some .hostBlocked else if s.fault.isSome then some .afterFault else none

/-- A command on an instance: the gate, then that an instance exists (R179), then the command itself. -/
def onInstance (s : State) (command : BusConfig → Result) : Result :=
  match commandGate s with
  | some r => .refused r
  | none =>
    match s.cfg with
    | none => .refused .noInstance
    | some c => command c

/-- The poll a wrapper makes after each tick: RECV_READ or RECV_WRITE; when it does not answer NotReady the wrapper
returns that answer (R176, R177). -/
def pollWaiting (s : State) : State :=
  match s.waiting with
  | none => s
  | some (.read k) =>
    match takeCompletedRead k s with
    | none => s
    | some (burst, t) => { respond (.okBurst burst) t with waiting := none }
  | some (.write k) =>
    match takeCompletedWrite k s with
    | none => s
    | some (_, t) => { respond .ok t with waiting := none }

/-- A wrapper enters its loop: it has not returned, and it ticks before it polls, unless the loop shape is the other
one (D24). -/
def startWaiting (w : Waiting) (s : State) : State :=
  let t := { s with waiting := some w, reply := none }
  if s.params.poll_first then pollWaiting t else t

end Sys2Proof.Machine
end

