-- ==== Sys2Proof/Machine/ReadAddress.lean ====
section
/-!
DEFINITION. The read address channel driver, AR (42_read_address_channel.md).
-/

namespace Sys2Proof.Machine

/-- `AR.drive` (R121): the front request's fields with valid, or the IDLE drive. -/
def arDrive (s : State) : State :=
  match s.ar_queue with
  | [] => { s with arvalid_q := false, araddr_q := 0, arlen_q := 0, arid_q := 0 }
  | h :: _ => { s with arvalid_q := true, araddr_q := h.address, arlen_q := h.burst_len_minus1, arid_q := h.id }

/-- The acceptance: the front request leaves the queue and its beat count enters `rd_pending` (R125). -/
def arAcceptFront (s : State) : Except Halt State :=
  match s.ar_queue with
  | [] => .error (.corrupt .arQueueEmpty)
  | h :: q => .ok (pushPending .read h.id (beatCount h.burst_len_minus1) { s with ar_queue := q })

/-- `AR.step(in)` (R127). -/
def arStep (inp : Inputs) (s : State) : Except Halt State :=
  if arAccepted s inp then (arAcceptFront s).bind fun t => .ok (arDrive t) else .ok (arDrive s)

/-- AR.IDLE (R123): `AR.drive`; `in.arready` is not looked at. -/
def execArIdle (_arready : Bool) (s : State) : Result :=
  channelEvent (!s.arvalid_q) (fun s => .ok (arDrive s)) s

/-- AR.STALL (R124): `AR.drive`, the same four values again. -/
def execArStall (s : State) : Result :=
  channelEvent s.arvalid_q (fun s => .ok (arDrive s)) s

/-- AR.ACCEPT (R125). -/
def execArAccept (s : State) : Result :=
  channelEvent s.arvalid_q (fun s => (arAcceptFront s).bind fun t => .ok (arDrive t)) s

end Sys2Proof.Machine
end

