-- ==== Sys2Proof/Machine/ReadData.lean ====
section
/-!
DEFINITION. The read data channel collector, R (43_read_data_channel.md).
-/

namespace Sys2Proof.Machine

/-- The ready drive (R130). -/
def rDriveReady (s : State) : State := { s with rready_q := true }

/-- `R.collect` (R134): the ID check of a first or of a later beat, then the append. The beat's logical word is
`unpack` of the words on the bus (R133). -/
def rCollect (rid : TxnId) (words : List Nat) (s : State) : Except Halt State :=
  let v := unpack words (DW s)
  if s.r_burst_data = [] then
    if hasPending .read rid s then .ok { s with r_burst_id := rid, r_burst_data := [v] }
    else .error (.violation { cause := .RD_NO_OUTSTANDING, id := rid, expected := 0, got := 0 })
  else if rid = s.r_burst_id then .ok { s with r_burst_data := s.r_burst_data ++ [v] }
  else .error (.violation { cause := .RD_ID_CHANGED, id := rid, expected := s.r_burst_id.val, got := rid.val })

/-- The length check of a last-flagged beat and the publication of the burst (R135). -/
def rPublish (s : State) : Except Halt State :=
  match frontPending .read s.r_burst_id s with
  | none => .error (.corrupt .rdPendingEmpty)
  | some n =>
    if n = s.r_burst_data.length then
      .ok { popPending .read s.r_burst_id (pushCompletedRead s.r_burst_id s.r_burst_data s) with r_burst_data := [] }
    else .error (.violation
      { cause := .RD_LENGTH_MISMATCH, id := s.r_burst_id, expected := n, got := s.r_burst_data.length })

/-- `R.step(in)` (R137), `words` being `in.rdata` as the snapshot presents it. -/
def rStep (inp : Inputs) (words : List Nat) (s : State) : Except Halt State :=
  if rAccepted s inp then
    (rCollect inp.rid words s).bind fun t =>
    if inp.rlast then (rPublish t).bind fun u => .ok (rDriveReady u) else .ok (rDriveReady t)
  else .ok (rDriveReady s)

/-- R.NOBEAT with `rready_q = 0` (R132): the ready drive; the peer's signals are not looked at. -/
def execRNobeatNotReady (_rvalid _rlast : Bool) (s : State) : Result :=
  channelEvent (!s.rready_q) (fun s => .ok (rDriveReady s)) s

/-- R.NOBEAT with `rready_q = 1` and `in.rvalid = 0` (R132). -/
def execRNobeatNotValid (_rlast : Bool) (s : State) : Result :=
  channelEvent s.rready_q (fun s => .ok (rDriveReady s)) s

/-- R.BEAT (R134). -/
def execRBeat (rid : TxnId) (rdata : Nat) (s : State) : Result :=
  dataEvent s.rready_q rdata (fun words s => (rCollect rid words s).bind fun t => .ok (rDriveReady t)) s

/-- R.LAST (R135). -/
def execRLast (rid : TxnId) (rdata : Nat) (s : State) : Result :=
  dataEvent s.rready_q rdata
    (fun words s => (rCollect rid words s).bind fun t => (rPublish t).bind fun u => .ok (rDriveReady u)) s

end Sys2Proof.Machine
end

