-- ==== Sys2Proof/Machine/WriteChannels.lean ====
section
/-!
DEFINITION. The write-side triad, AW, W and B (44_write_channels.md).
-/

namespace Sys2Proof.Machine

/-! ## AW: write address channel driver -/

/-- `AW.drive` (R141). -/
def awDrive (s : State) : State :=
  match s.aw_queue with
  | [] => { s with awvalid_q := false, awaddr_q := 0, awlen_q := 0, awid_q := 0 }
  | h :: _ => { s with awvalid_q := true, awaddr_q := h.address, awlen_q := h.burst_len_minus1, awid_q := h.id }

/-- The acceptance (R144): the beat count enters `wr_pending`, and the beats with their byte count feed the W driver. -/
def awAcceptFront (s : State) : Except Halt State :=
  match s.aw_queue with
  | [] => .error (.corrupt .awQueueEmpty)
  | h :: q =>
    .ok (pushPending .write h.id (beatCount h.burst_len_minus1)
      { s with
        aw_queue := q
        w_queue := s.w_queue ++ [{ beats := h.beats, byte_count := h.beats.length * beatBytes s }] })

/-- `AW.step(in)` (R145). -/
def awStep (inp : Inputs) (s : State) : Except Halt State :=
  if awAccepted s inp then (awAcceptFront s).bind fun t => .ok (awDrive t) else .ok (awDrive s)

/-- AW.IDLE (R142): `in.awready` is not looked at. -/
def execAwIdle (_awready : Bool) (s : State) : Result :=
  channelEvent (!s.awvalid_q) (fun s => .ok (awDrive s)) s

/-- AW.STALL (R143). -/
def execAwStall (s : State) : Result :=
  channelEvent s.awvalid_q (fun s => .ok (awDrive s)) s

/-- AW.ACCEPT (R144). -/
def execAwAccept (s : State) : Result :=
  channelEvent s.awvalid_q (fun s => (awAcceptFront s).bind fun t => .ok (awDrive t)) s

/-! ## W: write data channel driver -/

/-- `W.drive` (R147): `pack` of the beat at `w_idx` of the front burst, with last on its final beat, or the idle drive.
`wdata_q` holds the value those words are on the wires (40_word_codec.md R106). -/
def wDrive (s : State) : Except Halt State :=
  match s.w_queue with
  | [] => .ok { s with wvalid_q := false, wdata_q := 0, wlast_q := false }
  | b :: _ =>
    match b.beats[s.w_idx]? with
    | none => .error (.corrupt .wIndexPastEnd)
    | some v =>
      match pack v (DW s) with
      | none => .error (.corrupt .wBeatTooWide)
      | some words =>
        .ok { s with
          wvalid_q := true, wdata_q := unpack words (DW s), wlast_q := decide (s.w_idx = b.beats.length - 1) }

/-- The advance after an accepted beat (R151): the next index, and past the final beat the next burst. -/
def wAdvance (s : State) : Except Halt State :=
  match s.w_queue with
  | [] => .error (.corrupt .wQueueEmpty)
  | b :: q => if s.w_idx + 1 = b.beats.length then .ok { s with w_queue := q, w_idx := 0 } else .ok { s with w_idx := s.w_idx + 1 }

/-- `W.step(in)` (R152). -/
def wStep (inp : Inputs) (s : State) : Except Halt State :=
  if wAccepted s inp then (wAdvance s).bind wDrive else wDrive s

/-- W.IDLE (R148): `in.wready` is not looked at. -/
def execWIdle (_wready : Bool) (s : State) : Result :=
  channelEvent (!s.wvalid_q) wDrive s

/-- W.STALL (R149): the same beat again. -/
def execWStall (s : State) : Result :=
  channelEvent s.wvalid_q wDrive s

/-- W.ACCEPT (R151). -/
def execWAccept (s : State) : Result :=
  channelEvent s.wvalid_q (fun s => (wAdvance s).bind wDrive) s

/-! ## B: write response collector -/

/-- The ready drive (R155). -/
def bDriveReady (s : State) : State := { s with bready_q := true }

/-- An accepted response (R158): the ID check, then the status check, then the entry is freed and the code published. -/
def bRespond (bid : TxnId) (bresp : BitVec 2) (s : State) : Except Halt State :=
  if !hasPending .write bid s then
    .error (.violation { cause := .WR_NO_OUTSTANDING, id := bid, expected := 0, got := 0 })
  else if s.params.enforce_okay && bresp != 0 then
    .error (.violation { cause := .WR_ERROR_RESPONSE, id := bid, expected := 0, got := bresp.toNat })
  else .ok (pushCompletedWrite bid bresp.toNat (popPending .write bid s))

/-- `B.step(in)` (R159). -/
def bStep (inp : Inputs) (s : State) : Except Halt State :=
  if bAccepted s inp then (bRespond inp.bid inp.bresp s).bind fun t => .ok (bDriveReady t) else .ok (bDriveReady s)

/-- B.NOBEAT with `bready_q = 0` (R156): `in.bid`, `in.bresp` are not looked at. -/
def execBNobeatNotReady (_bvalid : Bool) (s : State) : Result :=
  channelEvent (!s.bready_q) (fun s => .ok (bDriveReady s)) s

/-- B.NOBEAT with `bready_q = 1` and `in.bvalid = 0` (R156). -/
def execBNobeatNotValid (s : State) : Result :=
  channelEvent s.bready_q (fun s => .ok (bDriveReady s)) s

/-- B.RESP (R158). -/
def execBResp (bid : TxnId) (bresp : BitVec 2) (s : State) : Result :=
  channelEvent s.bready_q (fun s => (bRespond bid bresp s).bind fun t => .ok (bDriveReady t)) s

end Sys2Proof.Machine
end

