-- ==== Sys2Proof/Machine/Clock.lean ====
section
/-!
DEFINITION. The clock events: TICK, the composition of the five channel machines (46_cycle_step.md), and RESET
(70_reset_and_hazards.md).
-/

namespace Sys2Proof.Machine

/-- The five steps of a tick on one snapshot, in the order R, B, W, AR, AW: consumers of the ledger and of `w_queue`
before their producers (R190, R193). With `SAME_TICK_VISIBLE` the producers come first (D4; entry 13). Each machine
reads only its own output registers, so that the steps may follow one another on the state (R191). -/
def tickMachines (inp : Inputs) (words : List Nat) (s : State) : Except Halt State :=
  if s.params.same_tick_visible then
    (arStep inp s).bind fun s1 => (awStep inp s1).bind fun s2 =>
    (rStep inp words s2).bind fun s3 => (bStep inp s3).bind fun s4 => wStep inp s4
  else
    (rStep inp words s).bind fun s1 => (bStep inp s1).bind fun s2 =>
    (wStep inp s2).bind fun s3 => (arStep inp s3).bind fun s4 => awStep inp s4

/-- TICK (R190): nothing while not started or after a fault; otherwise the five steps, and then the poll of a wrapper
that waits (45_host_commands.md R176, R177; entry 7). A ProtocolViolation ends it and is recorded (R195). -/
def execTick (inp : Inputs) (s : State) : Result :=
  if !running s then .next s
  else
    match snapshotWords s inp.rdata with
    | none => .refused .rdataTooWide
    | some words =>
      match tickMachines inp words s with
      | .ok t => .next (pollWaiting t)
      | .error h => settle s (.error h)

/-- RESET (R250): every item at its reset value, the configuration kept. -/
def execReset (s : State) : Result := .next (freshInstance s.cfg s)

end Sys2Proof.Machine
end

