-- ==== Sys2Proof/Machine/HostCommands.lean ====
section
/-!
DEFINITION. The host commands, the Master Facade (45_host_commands.md). A command that completes answers a next state
whose `reply` is what it returns. The source's validations come before the admitted domain (R179; entry 10), the
gate of `commandGate` before both (entry 9).
-/

namespace Sys2Proof.Machine

/-- CONSTRUCT (R170): a new instance, every item at its reset value, or InvalidArgument and nothing changed. The name
is the one given out of band (R85; entry 5). On an existing instance it makes the new one in its place (entry 4). -/
def execConstruct (dataWidthBits addrWidthBits : Nat) (s : State) : Result :=
  match commandGate s with
  | some r => .refused r
  | none =>
    let c : BusConfig :=
      { interface_name := s.iface_strap, data_width_bits := dataWidthBits, addr_width_bits := addrWidthBits }
    if configWellFormed c then .next (respond .ok (freshInstance (some c) s))
    else .next (respond .invalidArgument s)

/-- INIT (R171). -/
def execInit (s : State) : Result :=
  onInstance s fun _ =>
    if s.started then .refused .alreadyStarted else .next (respond .ok { s with started := true })

/-- SEND_READ (R172). -/
def execSendRead (addr length_bytes id : Nat) (s : State) : Result :=
  onInstance s fun c =>
    match checkRead s c addr length_bytes id with
    | .invalid => .next (respond .invalidArgument s)
    | .outside r => .refused r
    | .request req => .next (respond .ok { s with ar_queue := s.ar_queue ++ [req] })

/-- RECV_READ (R173): `take_completed(read, id)`. -/
def execRecvRead (id : Nat) (s : State) : Result :=
  onInstance s fun _ =>
    match transactionDomain s id with
    | .error r => .refused r
    | .ok k =>
      match takeCompletedRead k s with
      | none => .next (respond .notReady s)
      | some (burst, t) => .next (respond (.okBurst burst) t)

/-- SEND_WRITE (R174). -/
def execSendWrite (addr : Nat) (data : List Nat) (id : Nat) (s : State) : Result :=
  onInstance s fun c =>
    match checkWrite s c addr data id with
    | .invalid => .next (respond .invalidArgument s)
    | .outside r => .refused r
    | .request req => .next (respond .ok { s with aw_queue := s.aw_queue ++ [req] })

/-- RECV_WRITE (R175): `take_completed(write, id)`, whose item, the response code, the command does not return. -/
def execRecvWrite (id : Nat) (s : State) : Result :=
  onInstance s fun _ =>
    match transactionDomain s id with
    | .error r => .refused r
    | .ok k =>
      match takeCompletedWrite k s with
      | none => .next (respond .notReady s)
      | some (_, t) => .next (respond .ok t)

/-- READ (R176): SEND_READ, and unless that answers InvalidArgument the loop of tick and RECV_READ, which each TICK
carries one turn further (entry 7). -/
def execRead (addr length_bytes id : Nat) (s : State) : Result :=
  onInstance s fun c =>
    match checkRead s c addr length_bytes id with
    | .invalid => .next (respond .invalidArgument s)
    | .outside r => .refused r
    | .request req => .next (startWaiting (.read req.id) { s with ar_queue := s.ar_queue ++ [req] })

/-- WRITE (R177): SEND_WRITE, and unless that answers InvalidArgument the loop of tick and RECV_WRITE (entry 7). -/
def execWrite (addr : Nat) (data : List Nat) (id : Nat) (s : State) : Result :=
  onInstance s fun c =>
    match checkWrite s c addr data id with
    | .invalid => .next (respond .invalidArgument s)
    | .outside r => .refused r
    | .request req => .next (startWaiting (.write req.id) { s with aw_queue := s.aw_queue ++ [req] })

end Sys2Proof.Machine
end

