-- ==== Sys2Proof/Machine/Dispatch.lean ====
section
/-!
DEFINITION. One arm per constructor of Instr, each one call of the instruction's meaning.
-/

namespace Sys2Proof.Machine

def exec (i : Instr) (s : State) : Host.Outcome State Fault Refusal :=
  match i with
  -- host commands
  | .sendRead addr len id => Sys2Proof.Machine.execSendRead addr len id s
  | .recvRead id => Sys2Proof.Machine.execRecvRead id s
  | .sendWrite addr data id => Sys2Proof.Machine.execSendWrite addr data id s
  | .recvWrite id => Sys2Proof.Machine.execRecvWrite id s
  | .read addr len id => Sys2Proof.Machine.execRead addr len id s
  | .write addr data id => Sys2Proof.Machine.execWrite addr data id s
  | .init => Sys2Proof.Machine.execInit s
  | .construct dwBits awBits => Sys2Proof.Machine.execConstruct dwBits awBits s
  -- read address channel
  | .arIdle arready => Sys2Proof.Machine.execArIdle arready s
  | .arStall => Sys2Proof.Machine.execArStall s
  | .arAccept => Sys2Proof.Machine.execArAccept s
  -- read data channel
  | .rNobeatNotReady rvalid rlast => Sys2Proof.Machine.execRNobeatNotReady rvalid rlast s
  | .rNobeatNotValid rlast => Sys2Proof.Machine.execRNobeatNotValid rlast s
  | .rBeat rid rdata => Sys2Proof.Machine.execRBeat rid rdata s
  | .rLast rid rdata => Sys2Proof.Machine.execRLast rid rdata s
  -- write channels
  | .awIdle awready => Sys2Proof.Machine.execAwIdle awready s
  | .awStall => Sys2Proof.Machine.execAwStall s
  | .awAccept => Sys2Proof.Machine.execAwAccept s
  | .wIdle wready => Sys2Proof.Machine.execWIdle wready s
  | .wStall => Sys2Proof.Machine.execWStall s
  | .wAccept => Sys2Proof.Machine.execWAccept s
  | .bNobeatNotReady bvalid => Sys2Proof.Machine.execBNobeatNotReady bvalid s
  | .bNobeatNotValid => Sys2Proof.Machine.execBNobeatNotValid s
  | .bResp bid bresp => Sys2Proof.Machine.execBResp bid bresp s
  -- clock events
  | .reset => Sys2Proof.Machine.execReset s
  | .tick inp => Sys2Proof.Machine.execTick inp s

end Sys2Proof.Machine
end

