-- ==== Sys2Proof/WellFormed.lean ====
section
/-!
DEFINITION. Which instructions have a word: the operands of a command fit the fields of 30_encoding.md R85, and data
values fit the `DW` wires. `bw` is the number of bytes of a beat, `DW / 8` (0 while there is no instance).
-/

namespace Sys2Proof

/-- A payload fits `nbeats : 32` and `nbeats` fields of `DW` bits (R85). With no beat width only the empty payload does. -/
def payloadFits (bw : Nat) (data : List Nat) : Bool :=
  decide (data.length < 2 ^ 32) && (decide (0 < bw) || data.isEmpty) && data.all (fun v => decide (v < 256 ^ bw))

/-- The instruction has a word when a beat is `bw` bytes wide. -/
def Instr.wellFormed (bw : Nat) : Instr → Bool
  | .sendRead addr len id => decide (addr < 2 ^ 64) && decide (len < 2 ^ 32) && decide (id < 16)
  | .recvRead id => decide (id < 16)
  | .sendWrite addr data id => decide (addr < 2 ^ 64) && payloadFits bw data && decide (id < 16)
  | .recvWrite id => decide (id < 16)
  | .read addr len id => decide (addr < 2 ^ 64) && decide (len < 2 ^ 32) && decide (id < 16)
  | .write addr data id => decide (addr < 2 ^ 64) && payloadFits bw data && decide (id < 16)
  | .init => true
  | .construct dwBits awBits => decide (dwBits < 2 ^ 32) && decide (awBits < 2 ^ 32)
  | .arIdle _ => true
  | .arStall => true
  | .arAccept => true
  | .rNobeatNotReady _ _ => true
  | .rNobeatNotValid _ => true
  | .rBeat _ rdata => decide (rdata < 256 ^ bw)
  | .rLast _ rdata => decide (rdata < 256 ^ bw)
  | .awIdle _ => true
  | .awStall => true
  | .awAccept => true
  | .wIdle _ => true
  | .wStall => true
  | .wAccept => true
  | .bNobeatNotReady _ => true
  | .bNobeatNotValid => true
  | .bResp _ _ => true
  | .reset => true
  | .tick inp => decide (inp.rdata < 256 ^ bw)

end Sys2Proof
end

