-- ==== Sys2Proof/Decode.lean ====
section
/-!
DEFINITION. From words to instructions and back: the host command word of 30_encoding.md R85, R87, R89 and the event
selectors of R79 to R84. The decoder is total on any bytes and rejects by name; the encoder is written from the same
tables. The spec fixes the header byte and the order and width of the operands; the byte order of an operand and the
bytes that carry a selector's operands are a DESIGN CHOICE, entry 3.
-/

namespace Sys2Proof

/-! ## Fields -/

/-- The `n` bytes that carry `v`, most significant byte first, as the programs of 95_test_vectors.md write them
(DEDUCED, entry 3). -/
def natToBytes : Nat → Nat → List Byte
  | 0, _ => []
  | n + 1, v => BitVec.ofNat 8 (v / 256 ^ n) :: natToBytes n v

/-- Read `n` bytes, most significant first, onto `acc`; `none` when the bytes end first. -/
def readNat : Nat → Nat → List Byte → Option (Nat × List Byte)
  | 0, acc, bs => some (acc, bs)
  | _ + 1, _, [] => none
  | n + 1, acc, b :: bs => readNat n (acc * 256 + b.toNat) bs

/-- An unsigned field of `n` bytes. -/
def field (n : Nat) (bs : List Byte) : Except Reject (Nat × List Byte) :=
  match readNat n 0 bs with
  | none => .error .truncated
  | some p => .ok p

/-- `nbeats` fields of `bw` bytes, `beats[0]` first (R85). -/
def beatFields : Nat → Nat → List Byte → Except Reject (List Nat × List Byte)
  | 0, _, bs => .ok ([], bs)
  | n + 1, bw, bs =>
    (field bw bs).bind fun (v, bs1) =>
    (beatFields n bw bs1).bind fun (vs, bs2) => .ok (v :: vs, bs2)

/-- The payload of SEND_WRITE and WRITE: `nbeats : 32`, then `nbeats` fields of `DW` bits (R85, R90). -/
def payloadField (bw : Nat) (bs : List Byte) : Except Reject (List Nat × List Byte) :=
  (field 4 bs).bind fun (nbeats, bs1) =>
  if bw = 0 && nbeats != 0 then .error .noBeatWidth else beatFields nbeats bw bs1

/-- The payload as bytes. -/
def payloadBytes (bw : Nat) (data : List Nat) : List Byte :=
  natToBytes 4 data.length ++ data.flatMap (natToBytes bw)

/-- The low four bits of a number, as an ID. -/
def idOfNat (n : Nat) : TxnId := ⟨n % 16, Nat.mod_lt _ (by decide)⟩

/-! ## Decoding, one port at a time -/

/-- The host command word: `cmd[7:4] = op`, `cmd[3:0] = id`, then the operands (R85). Ops 0x0 and 0x9 to 0xF, and a
non-zero `id` in INIT and CONSTRUCT, are reserved (R89). -/
def decodeHost (bw : Nat) : List Byte → Except Reject (Instr × List Byte)
  | [] => .error .truncated
  | header :: bs =>
    let op := header.toNat / 16
    let id := header.toNat % 16
    match op with
    | 1 => (field 8 bs).bind fun (addr, bs1) => (field 4 bs1).bind fun (len, bs2) => .ok (.sendRead addr len id, bs2)
    | 2 => .ok (.recvRead id, bs)
    | 3 => (field 8 bs).bind fun (addr, bs1) => (payloadField bw bs1).bind fun (data, bs2) => .ok (.sendWrite addr data id, bs2)
    | 4 => .ok (.recvWrite id, bs)
    | 5 => (field 8 bs).bind fun (addr, bs1) => (field 4 bs1).bind fun (len, bs2) => .ok (.read addr len id, bs2)
    | 6 => (field 8 bs).bind fun (addr, bs1) => (payloadField bw bs1).bind fun (data, bs2) => .ok (.write addr data id, bs2)
    | 7 => if id = 0 then .ok (.init, bs) else .error (.reservedId op)
    | 8 =>
      if id = 0 then
        (field 4 bs).bind fun (dwBits, bs1) => (field 4 bs1).bind fun (awBits, bs2) => .ok (.construct dwBits awBits, bs2)
      else .error (.reservedId op)
    | op => .error (.reservedOp op)

/-- The clock edge: bit 0 is `aresetn` (R84). A TICK's word goes on with the sampled inputs: a byte
`{0, 0, arready, rvalid, rlast, awready, wready, bvalid}`, a byte `{rid, bid}`, a byte with `bresp`, and `rdata`
(entry 3). -/
def decodeClock (bw : Nat) : List Byte → Except Reject (Instr × List Byte)
  | [] => .error .truncated
  | sel :: bs =>
    match sel.toNat with
    | 0 => .ok (.reset, bs)
    | 1 =>
      (field 1 bs).bind fun (flags, bs1) =>
      (field 1 bs1).bind fun (ids, bs2) =>
      (field 1 bs2).bind fun (resp, bs3) =>
      (field bw bs3).bind fun (rdata, bs4) =>
      if flags < 64 ∧ resp < 4 then
        .ok (.tick { arready := flags.testBit 5, rvalid := flags.testBit 4, rlast := flags.testBit 3,
                     awready := flags.testBit 2, wready := flags.testBit 1, bvalid := flags.testBit 0,
                     rid := idOfNat (ids / 16), bid := idOfNat ids, bresp := BitVec.ofNat 2 resp, rdata := rdata }, bs4)
      else .error .badOperand
    | _ => .error .badSelector

/-- AR: `{arvalid_q, in.arready}` (R79). -/
def decodeAr : List Byte → Except Reject (Instr × List Byte)
  | [] => .error .truncated
  | sel :: bs =>
    match sel.toNat with
    | 0 => .ok (.arIdle false, bs)
    | 1 => .ok (.arIdle true, bs)
    | 2 => .ok (.arStall, bs)
    | 3 => .ok (.arAccept, bs)
    | _ => .error .badSelector

/-- AW: `{awvalid_q, in.awready}` (R79). -/
def decodeAw : List Byte → Except Reject (Instr × List Byte)
  | [] => .error .truncated
  | sel :: bs =>
    match sel.toNat with
    | 0 => .ok (.awIdle false, bs)
    | 1 => .ok (.awIdle true, bs)
    | 2 => .ok (.awStall, bs)
    | 3 => .ok (.awAccept, bs)
    | _ => .error .badSelector

/-- W: `{wvalid_q, in.wready}` (R82). -/
def decodeW : List Byte → Except Reject (Instr × List Byte)
  | [] => .error .truncated
  | sel :: bs =>
    match sel.toNat with
    | 0 => .ok (.wIdle false, bs)
    | 1 => .ok (.wIdle true, bs)
    | 2 => .ok (.wStall, bs)
    | 3 => .ok (.wAccept, bs)
    | _ => .error .badSelector

/-- The operands of an accepted read beat: a byte with `rid` in its low half, then `rdata` (entry 3). -/
def beatOperands (bw : Nat) (bs : List Byte) : Except Reject ((TxnId × Nat) × List Byte) :=
  (field 1 bs).bind fun (rid, bs1) =>
  (field bw bs1).bind fun (rdata, bs2) =>
  if rid < 16 then .ok ((idOfNat rid, rdata), bs2) else .error .badOperand

/-- R: `{rready_q, in.rvalid, in.rlast}` (R81); an accepted beat's `rid` and `rdata` follow. -/
def decodeR (bw : Nat) : List Byte → Except Reject (Instr × List Byte)
  | [] => .error .truncated
  | sel :: bs =>
    match sel.toNat with
    | 0 => .ok (.rNobeatNotReady false false, bs)
    | 1 => .ok (.rNobeatNotReady false true, bs)
    | 2 => .ok (.rNobeatNotReady true false, bs)
    | 3 => .ok (.rNobeatNotReady true true, bs)
    | 4 => .ok (.rNobeatNotValid false, bs)
    | 5 => .ok (.rNobeatNotValid true, bs)
    | 6 => (beatOperands bw bs).bind fun (p, bs1) => .ok (.rBeat p.1 p.2, bs1)
    | 7 => (beatOperands bw bs).bind fun (p, bs1) => .ok (.rLast p.1 p.2, bs1)
    | _ => .error .badSelector

/-- B: `{bready_q, in.bvalid}` (R83); an accepted response's byte `{0, 0, bresp, bid}` follows (entry 3). -/
def decodeB : List Byte → Except Reject (Instr × List Byte)
  | [] => .error .truncated
  | sel :: bs =>
    match sel.toNat with
    | 0 => .ok (.bNobeatNotReady false, bs)
    | 1 => .ok (.bNobeatNotReady true, bs)
    | 2 => .ok (.bNobeatNotValid, bs)
    | 3 =>
      (field 1 bs).bind fun (r, bs1) =>
      if r < 64 then .ok (.bResp (idOfNat r) (BitVec.ofNat 2 (r / 16)), bs1) else .error .badOperand
    | _ => .error .badSelector

/-- The instruction at the front of a port's bytes, and the bytes after it. `bw` is the width of a beat in bytes. -/
def decode (p : Port) (bw : Nat) (bs : List Byte) : Except Reject (Instr × List Byte) :=
  match p with
  | .host => decodeHost bw bs
  | .clock => decodeClock bw bs
  | .ar => decodeAr bs
  | .r => decodeR bw bs
  | .aw => decodeAw bs
  | .w => decodeW bs
  | .b => decodeB bs

/-! ## Encoding -/

/-- The port an instruction's word stands on: the "format" of its row in the opcode table. -/
def portOf : Instr → Port
  | .sendRead _ _ _ | .recvRead _ | .sendWrite _ _ _ | .recvWrite _ => .host
  | .read _ _ _ | .write _ _ _ | .init | .construct _ _ => .host
  | .arIdle _ | .arStall | .arAccept => .ar
  | .rNobeatNotReady _ _ | .rNobeatNotValid _ | .rBeat _ _ | .rLast _ _ => .r
  | .awIdle _ | .awStall | .awAccept => .aw
  | .wIdle _ | .wStall | .wAccept => .w
  | .bNobeatNotReady _ | .bNobeatNotValid | .bResp _ _ => .b
  | .reset | .tick _ => .clock

/-- The header byte `{op, id}` (R85). -/
def headerByte (op id : Nat) : Byte := BitVec.ofNat 8 (16 * op + id)

/-- The sampled one-bit inputs of a TICK as one number, in the order of `decodeClock`. -/
def inputFlags (inp : Inputs) : Nat :=
  32 * inp.arready.toNat + 16 * inp.rvalid.toNat + 8 * inp.rlast.toNat + 4 * inp.awready.toNat +
    2 * inp.wready.toNat + inp.bvalid.toNat

/-- The word of an instruction. -/
def encode (bw : Nat) : Instr → List Byte
  | .sendRead addr len id => headerByte 1 id :: natToBytes 8 addr ++ natToBytes 4 len
  | .recvRead id => [headerByte 2 id]
  | .sendWrite addr data id => headerByte 3 id :: natToBytes 8 addr ++ payloadBytes bw data
  | .recvWrite id => [headerByte 4 id]
  | .read addr len id => headerByte 5 id :: natToBytes 8 addr ++ natToBytes 4 len
  | .write addr data id => headerByte 6 id :: natToBytes 8 addr ++ payloadBytes bw data
  | .init => [headerByte 7 0]
  | .construct dwBits awBits => headerByte 8 0 :: natToBytes 4 dwBits ++ natToBytes 4 awBits
  | .arIdle r => [BitVec.ofNat 8 r.toNat]
  | .arStall => [2]
  | .arAccept => [3]
  | .rNobeatNotReady v l => [BitVec.ofNat 8 (2 * v.toNat + l.toNat)]
  | .rNobeatNotValid l => [BitVec.ofNat 8 (4 + l.toNat)]
  | .rBeat rid rdata => 6 :: natToBytes 1 rid.val ++ natToBytes bw rdata
  | .rLast rid rdata => 7 :: natToBytes 1 rid.val ++ natToBytes bw rdata
  | .awIdle r => [BitVec.ofNat 8 r.toNat]
  | .awStall => [2]
  | .awAccept => [3]
  | .wIdle r => [BitVec.ofNat 8 r.toNat]
  | .wStall => [2]
  | .wAccept => [3]
  | .bNobeatNotReady v => [BitVec.ofNat 8 v.toNat]
  | .bNobeatNotValid => [2]
  | .bResp bid bresp => 3 :: natToBytes 1 (16 * bresp.toNat + bid.val)
  | .reset => [0]
  | .tick inp =>
    1 :: natToBytes 1 (inputFlags inp) ++ natToBytes 1 (16 * inp.rid.val + inp.bid.val) ++
      natToBytes 1 inp.bresp.toNat ++ natToBytes bw inp.rdata

/-! ## Rows of the opcode table -/

/-- The "match" and "mask" of an instruction's row in spec/opcode_table.json. -/
def tableRow : Instr → Nat × Nat
  | .sendRead _ _ _ => (0x10, 0xF0)
  | .recvRead _ => (0x20, 0xF0)
  | .sendWrite _ _ _ => (0x30, 0xF0)
  | .recvWrite _ => (0x40, 0xF0)
  | .read _ _ _ => (0x50, 0xF0)
  | .write _ _ _ => (0x60, 0xF0)
  | .init => (0x70, 0xFF)
  | .construct _ _ => (0x80, 0xFF)
  | .arIdle _ => (0b00, 0b10)
  | .arStall => (0b10, 0b11)
  | .arAccept => (0b11, 0b11)
  | .rNobeatNotReady _ _ => (0b000, 0b100)
  | .rNobeatNotValid _ => (0b100, 0b110)
  | .rBeat _ _ => (0b110, 0b111)
  | .rLast _ _ => (0b111, 0b111)
  | .awIdle _ => (0b00, 0b10)
  | .awStall => (0b10, 0b11)
  | .awAccept => (0b11, 0b11)
  | .wIdle _ => (0b00, 0b10)
  | .wStall => (0b10, 0b11)
  | .wAccept => (0b11, 0b11)
  | .bNobeatNotReady _ => (0b00, 0b10)
  | .bNobeatNotValid => (0b10, 0b11)
  | .bResp _ _ => (0b11, 0b11)
  | .reset => (0b0, 0b1)
  | .tick _ => (0b1, 0b1)

/-- The port on which a table word is read when nothing says which. A first byte of 0x10 or more is a command header
and nothing else. Below that the same number is a selector of several channels (0 alone is six rows'), and a number
cannot tell them apart: 0 and 1 are read as the clock's, 2 and 3 as AR's, 4 to 7 as R's, the others as a command.
DESIGN CHOICE, entry 2. -/
def tablePort (firstByte : Nat) : Port :=
  if firstByte < 2 then .clock else if firstByte < 4 then .ar else if firstByte < 8 then .r else .host

/-- `n` bytes of a table word from bit 0 up: byte 0 is bits 7..0. -/
def tableBytes : Nat → Nat → List Byte
  | 0, _ => []
  | n + 1, w => BitVec.ofNat 8 w :: tableBytes n (w / 256)

/-- The bytes of a table word: the row's own bytes, then operand bytes of zero enough for the longest row. The longest
word has 13 bytes (SEND_READ), or 4 bytes and a beat (TICK); an empty payload needs no beat. -/
def tableWord (bw nbits w : Nat) : List Byte :=
  tableBytes ((nbits + 7) / 8) (w % 2 ^ nbits) ++ List.replicate (16 + bw) 0

/-- The instruction the decoder reads from a word of spec/opcode_table.json, operand bytes zero. -/
def decodeTableWord (nbits w : Nat) : Option Instr :=
  match decode (tablePort (w % 256)) 0 (tableWord 0 nbits w) with
  | .ok (i, _) => some i
  | .error _ => none

end Sys2Proof
end

