-- ==== Sys2Proof/Machine/Fetch.lean ====
section
/-!
DEFINITION. How the machine comes by its next operation: the front of what is presented to it (entry 1). The block has
no program counter (10_state.md R47).
-/

namespace Sys2Proof.Machine

/-- What is left to present once a word has been read from the front stimulus: bytes after it are further words of
the same port. -/
def restOf (p : Port) (left : List Byte) (later : List Stimulus) : List Stimulus :=
  match left with
  | [] => later
  | _ :: _ => { port := p, bytes := left } :: later

/-- The operation presented next, and the state once it has been taken. -/
def fetch (s : State) : Except Refusal (Instr × State) :=
  match s.stimuli with
  | [] => .error .nothingPresented
  | st :: later =>
    match decode st.port (beatBytes s) st.bytes with
    | .error r => .error (.undecodable r)
    | .ok (i, left) => .ok (i, { s with stimuli := restOf st.port left later })

/-- A word of the opcode table as a stimulus, operand bytes zero (`tableWord`, `tablePort`; entry 2). -/
def tableStimulus (s : State) (nbits w : Nat) : Stimulus :=
  { port := tablePort (w % 256), bytes := tableWord (beatBytes s) nbits w }

end Sys2Proof.Machine
end

