-- ==== Sys2Proof/Machine/Step.lean ====
section
/-!
DEFINITION. One step: the operation presented next, performed (entry 1).
-/

namespace Sys2Proof.Machine

/-- One step of the machine: take the next operation presented and perform it. Three outcomes: next, fault, refusal. -/
def step (s : State) : Host.Outcome State Fault Refusal :=
  match fetch s with
  | .error r => .refused r
  | .ok (i, t) => exec i t

/-- `s` with a word of the opcode table presented next, before all else. -/
def State.withFetchWord (s : State) (nbits w : Nat) : State :=
  { s with stimuli := tableStimulus s nbits w :: s.stimuli }

end Sys2Proof.Machine
end

