-- ==== Sys2Proof/Machine/Signals.lean ====
section
/-!
DEFINITION. The bus signals (30_encoding.md R70 to R75): names, directions, widths, and what the block drives on each
of its outputs during the current cycle.
-/

namespace Sys2Proof.Machine

/-- Every bus signal of the block (R71 to R75); it has no other (R88). -/
inductive Signal where
  | arvalid | arready | araddr | arlen | arid
  | rvalid | rready | rdata | rid | rlast
  | awvalid | awready | awaddr | awlen | awid
  | wvalid | wready | wdata | wlast
  | bvalid | bready | bid | bresp
  deriving DecidableEq, Repr

/-- The signal's own name. -/
def signalBase : Signal → String
  | .arvalid => "arvalid" | .arready => "arready" | .araddr => "araddr" | .arlen => "arlen" | .arid => "arid"
  | .rvalid => "rvalid" | .rready => "rready" | .rdata => "rdata" | .rid => "rid" | .rlast => "rlast"
  | .awvalid => "awvalid" | .awready => "awready" | .awaddr => "awaddr" | .awlen => "awlen" | .awid => "awid"
  | .wvalid => "wvalid" | .wready => "wready" | .wdata => "wdata" | .wlast => "wlast"
  | .bvalid => "bvalid" | .bready => "bready" | .bid => "bid" | .bresp => "bresp"

/-- `<IFACE>_<name>` (R70). -/
def signalName (c : BusConfig) (sig : Signal) : String := c.interface_name ++ "_" ++ signalBase sig

/-- The width of a signal in bits (R71 to R75, D21). -/
def signalWidth (c : BusConfig) (p : Params) : Signal → Nat
  | .araddr | .awaddr => c.addr_width_bits
  | .arlen | .awlen => p.len_w
  | .rdata | .wdata => c.data_width_bits
  | .arid | .rid | .awid | .bid => 4
  | .bresp => 2
  | _ => 1

/-- What the block drives on an output during the current cycle; `none` for an input. -/
def driven (s : State) : Signal → Option Nat
  | .arvalid => some s.arvalid_q.toNat
  | .araddr => some s.araddr_q
  | .arlen => some s.arlen_q
  | .arid => some s.arid_q.val
  | .rready => some s.rready_q.toNat
  | .awvalid => some s.awvalid_q.toNat
  | .awaddr => some s.awaddr_q
  | .awlen => some s.awlen_q
  | .awid => some s.awid_q.val
  | .wvalid => some s.wvalid_q.toNat
  | .wdata => some s.wdata_q
  | .wlast => some s.wlast_q.toNat
  | .bready => some s.bready_q.toNat
  | .arready | .rvalid | .rdata | .rid | .rlast | .awready | .wready | .bvalid | .bid | .bresp => none

/-- `wdata` as the sequence of words by which it travels (R74, R77). -/
def wdataWords (s : State) : Option (List Nat) := pack s.wdata_q (DW s)

end Sys2Proof.Machine
end

