-- ==== Sys2Proof/Safety.lean ====
section
/-!
DEFINITION. The terms in which claims about runs are put: the invariants of 10_state.md R43 with the widths of R27, R29,
R35, R36 and the index of R34; quiescence (46_cycle_step.md R198); the peer that keeps its contract (60_exceptions.md
R222); and what may be said of outcomes after a violation (46_cycle_step.md R195).
-/

namespace Sys2Proof.Machine

/-- The read request fits the address channel's signals (45_host_commands.md R179). -/
def readFits (s : State) (r : PendingRequest) : Prop :=
  r.address < 2 ^ ADDR_W s ∧ r.burst_len_minus1 < 2 ^ s.params.len_w

/-- The write request fits, and its beats are as R29 says. -/
def writeFits (s : State) (r : WriteRequest) : Prop :=
  r.address < 2 ^ ADDR_W s ∧ r.burst_len_minus1 < 2 ^ s.params.len_w ∧
    r.beats.length = r.burst_len_minus1 + 1 ∧ ∀ v ∈ r.beats, v < 2 ^ DW s

/-- A WBurst is as R33 says. -/
def burstFits (s : State) (b : WBurst) : Prop :=
  b.beats ≠ [] ∧ b.byte_count = b.beats.length * beatBytes s ∧ ∀ v ∈ b.beats, v < 2 ^ DW s

/-- R43 (a) and (b): AR drives the front request, or zeros. -/
def arOutputs (s : State) : Prop :=
  (s.arvalid_q = true →
    ∃ h q, s.ar_queue = h :: q ∧ s.araddr_q = h.address ∧ s.arlen_q = h.burst_len_minus1 ∧ s.arid_q = h.id) ∧
  (s.arvalid_q = false → s.araddr_q = 0 ∧ s.arlen_q = 0 ∧ s.arid_q = 0)

/-- R43 (c): AW drives the front request, or zeros. -/
def awOutputs (s : State) : Prop :=
  (s.awvalid_q = true →
    ∃ h q, s.aw_queue = h :: q ∧ s.awaddr_q = h.address ∧ s.awlen_q = h.burst_len_minus1 ∧ s.awid_q = h.id) ∧
  (s.awvalid_q = false → s.awaddr_q = 0 ∧ s.awlen_q = 0 ∧ s.awid_q = 0)

/-- R43 (d) and (e): W drives the beat at `w_idx` of the front burst, with last on the final one, or zeros. -/
def wOutputs (s : State) : Prop :=
  (s.wvalid_q = true →
    ∃ b q, s.w_queue = b :: q ∧ b.beats[s.w_idx]? = some s.wdata_q ∧
      (s.wlast_q = true ↔ s.w_idx = b.beats.length - 1)) ∧
  (s.wvalid_q = false → s.wdata_q = 0 ∧ s.wlast_q = false)

/-- R34: `w_idx` is an index of the front burst, and 0 when there is none. -/
def wIndexOk (s : State) : Prop :=
  (s.w_queue = [] → s.w_idx = 0) ∧ ∀ b q, s.w_queue = b :: q → s.w_idx < b.beats.length

/-- The invariants of a state in which no ProtocolViolation has been raised. -/
structure Good (s : State) : Prop where
  config : ∀ c, s.cfg = some c → configWellFormed c = true
  instanceStarted : s.started = true → ∃ c, s.cfg = some c
  reads : ∀ r ∈ s.ar_queue, readFits s r
  writes : ∀ r ∈ s.aw_queue, writeFits s r
  bursts : ∀ b ∈ s.w_queue, burstFits s b
  wIndex : wIndexOk s
  arOut : arOutputs s
  awOut : awOutputs s
  wOut : wOutputs s
  /-- R43 (f). -/
  assembling : s.r_burst_data ≠ [] → s.rd_pending[s.r_burst_id] ≠ []
  /-- R43 (g). -/
  pendingCounts : ∀ k : TxnId, (∀ n ∈ s.rd_pending[k], 1 ≤ n) ∧ (∀ n ∈ s.wr_pending[k], 1 ≤ n)
  /-- R43 (h), and R101: the words of a Burst are `DW` bits wide. -/
  completed : ∀ k : TxnId, ∀ burst ∈ s.rd_completed[k], burst ≠ [] ∧ ∀ v ∈ burst, v < 2 ^ DW s
  accumulated : ∀ v ∈ s.r_burst_data, v < 2 ^ DW s

/-- R43 "hold in every state reachable from reset with `fault = none`"; of the rest of a faulted state nothing is
claimed (U1), but the configuration, which nothing writes, still meets R20. -/
structure Inv (s : State) : Prop where
  config : ∀ c, s.cfg = some c → configWellFormed c = true
  good : s.fault = none → Good s

/-- Nothing is queued, outstanding or under assembly, and nothing went wrong (46_cycle_step.md R198). -/
def Quiescent (s : State) : Prop :=
  s.fault = none ∧ s.ar_queue = [] ∧ s.aw_queue = [] ∧ s.w_queue = [] ∧ s.r_burst_data = [] ∧
    ∀ k : TxnId, s.rd_pending[k] = [] ∧ s.wr_pending[k] = []

/-- The outstanding lengths that R finds for an ID at a tick: those recorded before it and, with `SAME_TICK_VISIBLE`,
that of a request accepted at that very tick (46_cycle_step.md R193, D4; entry 13). -/
def rdPendingSeen (s : State) (inp : Inputs) (k : TxnId) : List Nat :=
  match s.ar_queue with
  | [] => s.rd_pending[k]
  | h :: _ =>
    if s.params.same_tick_visible = true ∧ arAccepted s inp = true ∧ h.id = k then
      s.rd_pending[k] ++ [beatCount h.burst_len_minus1]
    else s.rd_pending[k]

/-- The outstanding lengths that B finds for an ID at a tick. -/
def wrPendingSeen (s : State) (inp : Inputs) (k : TxnId) : List Nat :=
  match s.aw_queue with
  | [] => s.wr_pending[k]
  | h :: _ =>
    if s.params.same_tick_visible = true ∧ awAccepted s inp = true ∧ h.id = k then
      s.wr_pending[k] ++ [beatCount h.burst_len_minus1]
    else s.wr_pending[k]

/-- The read beat accepted with these inputs breaks none of causes 1 to 3 (60_exceptions.md R222). -/
def readBeatKept (s : State) (inp : Inputs) : Prop :=
  rAccepted s inp = true →
    (s.r_burst_data = [] → rdPendingSeen s inp inp.rid ≠ []) ∧
    (s.r_burst_data ≠ [] → inp.rid = s.r_burst_id) ∧
    (inp.rlast = true → (rdPendingSeen s inp inp.rid).head? = some (s.r_burst_data.length + 1))

/-- The response accepted with these inputs breaks neither cause 4 nor cause 5 (R222). -/
def responseKept (s : State) (inp : Inputs) : Prop :=
  bAccepted s inp = true →
    wrPendingSeen s inp inp.bid ≠ [] ∧ (s.params.enforce_okay = true → inp.bresp = 0)

/-- Two outcomes are the same as far as the spec lets a claim go: the same outcome, or next states that record the same
violation, of whose other items nothing may be claimed (46_cycle_step.md R195, U1). -/
def Alike (a b : Result) : Prop :=
  a = b ∨ ∃ t u, a = .next t ∧ b = .next u ∧ t.fault ≠ none ∧ t.fault = u.fault

end Sys2Proof.Machine
end

