-- ==== Sys2Proof/Certificates/Slice0/Obligations.lean ====
section
/-!
DEFINITION. The statements for the provers. Each docstring names the rule of spec/ it formalises. A result is written
out as a whole state, so that it says both what an operation changes and that it changes nothing else. Events are
performed by themselves (entry 11); that TICK performs the selected ones is `TickPerformsTheFiveSelectedEvents`.
-/

open Sys2Proof Sys2Proof.Machine

/-! ## Words: encoding and decoding -/

/-- Tier 3. Reading the word of any well-formed instruction gives the instruction back, at every operand value, and
leaves the bytes after it. Entry 3 fixes the bytes of operands. -/
def Obligations.DecodeOfEncodeIsTheInstruction : Prop :=
  ∀ (bw : Nat) (i : Instr) (rest : List Byte), i.wellFormed bw = true →
    decode (portOf i) bw (encode bw i ++ rest) = .ok (i, rest)

/-- Tier 3. The other direction: a word the decoder accepts is the word of the instruction it gives, which is well
formed, followed by the bytes left over. -/
def Obligations.DecodedWordIsTheWordOfItsInstruction : Prop :=
  ∀ (p : Port) (bw : Nat) (bs rest : List Byte) (i : Instr), decode p bw bs = .ok (i, rest) →
    portOf i = p ∧ i.wellFormed bw = true ∧ encode bw i ++ rest = bs

/-- Tier 1. A word of every constructor, its first byte written out from 30_encoding.md R79 to R85, decodes to what it
stands for; the SEND_READ, SEND_WRITE and WRITE words are those of programs P1 and P3 of 95_test_vectors.md. The order
of the bytes within an operand, as those programs write them (DEDUCED), and the operand bytes of R.BEAT, R.LAST, B.RESP
and TICK (DESIGN CHOICE) are the model's: entry 3. -/
def Obligations.SampleWordsDecode : Prop :=
  (decode .host 16 [0x10, 0, 0, 0, 0, 0, 0, 0, 0, 0, 0, 0, 0x80] = .ok (.sendRead 0 128 0, []) ∧
    decode .host 4 [0x22, 0x45, 0x70] = .ok (.recvRead 2, [0x45, 0x70]) ∧
    decode .host 8 [0x35, 0, 0, 0, 0, 0, 0, 0, 0x40, 0, 0, 0, 3, 0, 0, 0, 0, 0, 0, 0, 0x11, 0, 0, 0, 0, 0, 0, 0, 0x22,
      0, 0, 0, 0, 0, 0, 0, 0x33] = .ok (.sendWrite 0x40 [0x11, 0x22, 0x33] 5, []) ∧
    decode .host 4 [0x45, 0x70] = .ok (.recvWrite 5, [0x70]) ∧
    decode .host 16 [0x50, 0, 0, 0, 0, 0, 0, 0, 0, 0, 0, 0, 0x80] = .ok (.read 0 128 0, []) ∧
    decode .host 8 [0x65, 0, 0, 0, 0, 0, 0, 0, 0x40, 0, 0, 0, 3, 0, 0, 0, 0, 0, 0, 0, 0x11, 0, 0, 0, 0, 0, 0, 0, 0x22,
      0, 0, 0, 0, 0, 0, 0, 0x33] = .ok (.write 0x40 [0x11, 0x22, 0x33] 5, []) ∧
    decode .host 4 [0x70] = .ok (.init, []) ∧
    decode .host 0 [0x80, 0, 0, 0, 0x80, 0, 0, 0, 0x10] = .ok (.construct 128 16, [])) ∧
  (decode .ar 4 [0b00] = .ok (.arIdle false, []) ∧ decode .ar 4 [0b01] = .ok (.arIdle true, []) ∧
    decode .ar 4 [0b10] = .ok (.arStall, []) ∧ decode .ar 4 [0b11] = .ok (.arAccept, [])) ∧
  (decode .r 4 [0b001] = .ok (.rNobeatNotReady false true, []) ∧
    decode .r 4 [0b010] = .ok (.rNobeatNotReady true false, []) ∧
    decode .r 4 [0b101] = .ok (.rNobeatNotValid true, []) ∧
    decode .r 2 [0b110, 3, 0x12, 0x34] = .ok (.rBeat 3 0x1234, []) ∧
    decode .r 2 [0b111, 15, 0xFF, 0] = .ok (.rLast 15 0xFF00, [])) ∧
  (decode .aw 4 [0b00] = .ok (.awIdle false, []) ∧ decode .aw 4 [0b01] = .ok (.awIdle true, []) ∧
    decode .aw 4 [0b10] = .ok (.awStall, []) ∧ decode .aw 4 [0b11] = .ok (.awAccept, [])) ∧
  (decode .w 4 [0b00] = .ok (.wIdle false, []) ∧ decode .w 4 [0b01] = .ok (.wIdle true, []) ∧
    decode .w 4 [0b10] = .ok (.wStall, []) ∧ decode .w 4 [0b11] = .ok (.wAccept, [])) ∧
  (decode .b 4 [0b00] = .ok (.bNobeatNotReady false, []) ∧ decode .b 4 [0b01] = .ok (.bNobeatNotReady true, []) ∧
    decode .b 4 [0b10] = .ok (.bNobeatNotValid, []) ∧ decode .b 4 [0b11, 0x25] = .ok (.bResp 5 2, [])) ∧
  decode .clock 4 [0] = .ok (.reset, []) ∧
  decode .clock 1 [1, 0b010110, 0x3C, 2, 0xAA] =
    .ok (.tick { arready := false, rvalid := true, rlast := false, awready := true, wready := true, bvalid := false,
                 rid := 3, bid := 12, bresp := 2, rdata := 0xAA }, [])

/-- Tier 2. R89: the reserved command words have no instruction, and every pattern of selecting bits has one. -/
def Obligations.ReservedWordsRefusedAndNoPatternIs : Prop :=
  (∀ (bw : Nat) (h : Byte) (bs : List Byte), h.toNat / 16 = 0 ∨ 9 ≤ h.toNat / 16 →
    decode .host bw (h :: bs) = .error (.reservedOp (h.toNat / 16))) ∧
  (∀ (bw : Nat) (h : Byte) (bs : List Byte), h.toNat / 16 = 7 ∨ h.toNat / 16 = 8 → h.toNat % 16 ≠ 0 →
    decode .host bw (h :: bs) = .error (.reservedId (h.toNat / 16))) ∧
  (∀ (s : State) (inp : Inputs), portOf (arEvent s inp) = .ar ∧ portOf (rEvent s inp) = .r ∧
    portOf (awEvent s inp) = .aw ∧ portOf (wEvent s inp) = .w ∧ portOf (bEvent s inp) = .b) ∧
  (∀ (p : Port) (bw : Nat) (h : Byte) (bs : List Byte), p = .ar ∨ p = .aw ∨ p = .w ∨ p = .b ∨ p = .r →
    h.toNat < (if p = .r then 8 else 4) → decode p bw (h :: bs) ≠ .error .badSelector)

/-- Tier 1. One step performs the instruction that the bytes presented next decode to, in the state in which those
bytes have been taken; bytes after the word stay, as further words of the same port. Entry 1. -/
def Obligations.StepPerformsThePresentedInstruction : Prop :=
  ∀ (s : State) (p : Port) (bs left : List Byte) (later : List Stimulus) (i : Instr),
    s.stimuli = { port := p, bytes := bs } :: later → decode p (beatBytes s) bs = .ok (i, left) →
    step s = exec i { s with stimuli := if left = [] then later else { port := p, bytes := left } :: later }

/-! ## The word codec -/

/-- Tier 2. R102: narrow, where `v < 2^DW`, one element; wide the words, by their bits. -/
def Obligations.PackSplitsIntoWords : Prop :=
  ∀ (v dw : Nat),
    (dw ≤ 64 → v < 2 ^ dw → pack v dw = some [v]) ∧
    (64 < dw → ∃ ws, pack v dw = some ws ∧ ws.length = (dw + 31) / 32 ∧
      ∀ i, i < (dw + 31) / 32 → ws[i]? = some (v / 2 ^ (32 * i) % 2 ^ 32))

/-- Tier 2. The round trip of R104 at every width, and its converse on bus words: the extension to every width and the
converse are inferences the spec marks as its own. What `pack` does not settle (narrow, `2^DW <= v`) it refuses (R105,
D20, U2; entry 14), so that the narrow converse is stated below `2^DW`, where it is R104's. -/
def Obligations.UnpackInvertsPack : Prop :=
  (∀ (v dw : Nat), v < 2 ^ dw → ∃ ws, pack v dw = some ws ∧ unpack ws dw = v) ∧
  (∀ (ws : List Nat) (dw : Nat), dw ≤ 64 → ws.length = 1 → (∀ w ∈ ws, w < 2 ^ dw) →
    pack (unpack ws dw) dw = some ws) ∧
  (∀ (ws : List Nat) (dw : Nat), 64 < dw → ws.length = (dw + 31) / 32 → (∀ w ∈ ws, w < 2 ^ 32) →
    pack (unpack ws dw) dw = some ws) ∧
  (∀ (v dw : Nat), dw ≤ 64 → 2 ^ dw ≤ v → pack v dw = none)

/-! ## The transaction ledger -/

/-- Tier 1. R111: `push_pending`, slot by slot. -/
def Obligations.PushPendingAppendsToItsSlot : Prop :=
  ∀ (side : Side) (k : TxnId) (n : Nat) (s : State),
    (pendingOf side (pushPending side k n s))[k] = (pendingOf side s)[k] ++ [n] ∧
    (∀ j : TxnId, j ≠ k → (pendingOf side (pushPending side k n s))[j] = (pendingOf side s)[j]) ∧
    (∀ other : Side, other ≠ side → pendingOf other (pushPending side k n s) = pendingOf other s)

/-- Tier 1. R113: `pop_pending`, slot by slot, where it has its precondition. -/
def Obligations.PopPendingRemovesTheOldest : Prop :=
  ∀ (side : Side) (k : TxnId) (n : Nat) (ns : List Nat) (s : State), (pendingOf side s)[k] = n :: ns →
    frontPending side k s = some n ∧
    (pendingOf side (popPending side k s))[k] = ns ∧
    (∀ j : TxnId, j ≠ k → (pendingOf side (popPending side k s))[j] = (pendingOf side s)[j]) ∧
    (∀ other : Side, other ≠ side → pendingOf other (popPending side k s) = pendingOf other s)

/-! ## AR: the read address channel -/

/-- Tier 1. R123, with R121's drive written out. -/
def Obligations.ArIdleDrivesTheFrontRequest : Prop :=
  ∀ (s : State) (arready : Bool), s.started = true → s.fault = none → s.arvalid_q = false →
    (s.ar_queue = [] → exec (.arIdle arready) s =
      .next { s with arvalid_q := false, araddr_q := 0, arlen_q := 0, arid_q := 0 }) ∧
    (∀ h q, s.ar_queue = h :: q → exec (.arIdle arready) s =
      .next { s with arvalid_q := true, araddr_q := h.address, arlen_q := h.burst_len_minus1, arid_q := h.id })

/-- Tier 1. R124: the front request's values are driven again; they are the values the registers already have. -/
def Obligations.ArStallHoldsTheRequest : Prop :=
  ∀ (s : State) (h : PendingRequest) (q : List PendingRequest), s.started = true → s.fault = none →
    s.arvalid_q = true → s.ar_queue = h :: q →
    exec .arStall s =
      .next { s with arvalid_q := true, araddr_q := h.address, arlen_q := h.burst_len_minus1, arid_q := h.id } ∧
    (arOutputs s → exec .arStall s = .next s)

/-- Tier 1. R125. -/
def Obligations.ArAcceptRecordsTheRequestAndDrivesTheNext : Prop :=
  ∀ (s : State) (h : PendingRequest) (q : List PendingRequest), s.started = true → s.fault = none →
    s.arvalid_q = true → s.ar_queue = h :: q →
    (q = [] → exec .arAccept s =
      .next { s with
        ar_queue := []
        rd_pending := s.rd_pending.set h.id.val (s.rd_pending[h.id] ++ [h.burst_len_minus1 + 1]) h.id.isLt
        arvalid_q := false, araddr_q := 0, arlen_q := 0, arid_q := 0 }) ∧
    (∀ h2 q2, q = h2 :: q2 → exec .arAccept s =
      .next { s with
        ar_queue := h2 :: q2
        rd_pending := s.rd_pending.set h.id.val (s.rd_pending[h.id] ++ [h.burst_len_minus1 + 1]) h.id.isLt
        arvalid_q := true, araddr_q := h2.address, arlen_q := h2.burst_len_minus1, arid_q := h2.id })

/-! ## R: the read data channel -/

/-- Tier 1. R132: both patterns of R.NOBEAT write `rready_q` and nothing else, whatever the peer drives. -/
def Obligations.RNobeatRaisesReadyOnly : Prop :=
  ∀ (s : State) (rvalid rlast : Bool), s.started = true → s.fault = none →
    (s.rready_q = false → exec (.rNobeatNotReady rvalid rlast) s = .next { s with rready_q := true }) ∧
    (s.rready_q = true → exec (.rNobeatNotValid rlast) s = .next { s with rready_q := true })

/-- Tier 2. R134: R.BEAT on a first and on a later beat, and its two violations. The appended word is the value on the
data wires (R106, R133). -/
def Obligations.RBeatCollectsOrRaises : Prop :=
  ∀ (s : State) (rid : TxnId) (rdata : Nat), s.started = true → s.fault = none → s.rready_q = true →
    rdata < 2 ^ DW s →
    (s.r_burst_data = [] → s.rd_pending[rid] ≠ [] → exec (.rBeat rid rdata) s =
      .next { s with r_burst_id := rid, r_burst_data := [rdata], rready_q := true }) ∧
    (s.r_burst_data ≠ [] → rid = s.r_burst_id → exec (.rBeat rid rdata) s =
      .next { s with r_burst_data := s.r_burst_data ++ [rdata], rready_q := true }) ∧
    (s.r_burst_data = [] → s.rd_pending[rid] = [] → ∃ t, exec (.rBeat rid rdata) s = .next t ∧
      t.fault = some { cause := .RD_NO_OUTSTANDING, id := rid, expected := 0, got := 0 }) ∧
    (s.r_burst_data ≠ [] → rid ≠ s.r_burst_id → ∃ t, exec (.rBeat rid rdata) s = .next t ∧
      t.fault = some { cause := .RD_ID_CHANGED, id := rid, expected := s.r_burst_id.val, got := rid.val })

/-- Tier 2. R135: R.LAST publishes the burst when the beat count, this beat included, is the oldest outstanding length
of its ID; it raises otherwise, the ID checks of R134 coming before the length check. -/
def Obligations.RLastPublishesTheBurstOrRaises : Prop :=
  ∀ (s : State) (rid : TxnId) (rdata : Nat), s.started = true → s.fault = none → s.rready_q = true →
    rdata < 2 ^ DW s →
    (∀ n ns, (s.r_burst_data ≠ [] → rid = s.r_burst_id) → s.rd_pending[rid] = n :: ns →
      n = s.r_burst_data.length + 1 → exec (.rLast rid rdata) s =
        .next { s with
          r_burst_id := rid
          r_burst_data := []
          rd_completed := s.rd_completed.set rid.val (s.rd_completed[rid] ++ [s.r_burst_data ++ [rdata]]) rid.isLt
          rd_pending := s.rd_pending.set rid.val ns rid.isLt
          rready_q := true }) ∧
    (s.r_burst_data = [] → s.rd_pending[rid] = [] → ∃ t, exec (.rLast rid rdata) s = .next t ∧
      t.fault = some { cause := .RD_NO_OUTSTANDING, id := rid, expected := 0, got := 0 }) ∧
    (s.r_burst_data ≠ [] → rid ≠ s.r_burst_id → ∃ t, exec (.rLast rid rdata) s = .next t ∧
      t.fault = some { cause := .RD_ID_CHANGED, id := rid, expected := s.r_burst_id.val, got := rid.val }) ∧
    (∀ n ns, (s.r_burst_data ≠ [] → rid = s.r_burst_id) → s.rd_pending[rid] = n :: ns →
      n ≠ s.r_burst_data.length + 1 → ∃ t, exec (.rLast rid rdata) s = .next t ∧
      t.fault = some { cause := .RD_LENGTH_MISMATCH, id := rid, expected := n, got := s.r_burst_data.length + 1 })

/-! ## AW, W, B: the write channels -/

/-- Tier 1. R142 and R143, with R141's drive written out. -/
def Obligations.AwIdleAndStallDriveTheFrontRequest : Prop :=
  ∀ (s : State) (awready : Bool), s.started = true → s.fault = none →
    (s.awvalid_q = false → s.aw_queue = [] → exec (.awIdle awready) s =
      .next { s with awvalid_q := false, awaddr_q := 0, awlen_q := 0, awid_q := 0 }) ∧
    (s.awvalid_q = false → ∀ h q, s.aw_queue = h :: q → exec (.awIdle awready) s =
      .next { s with awvalid_q := true, awaddr_q := h.address, awlen_q := h.burst_len_minus1, awid_q := h.id }) ∧
    (s.awvalid_q = true → ∀ h q, s.aw_queue = h :: q → exec .awStall s =
      .next { s with awvalid_q := true, awaddr_q := h.address, awlen_q := h.burst_len_minus1, awid_q := h.id }) ∧
    (s.awvalid_q = true → s.aw_queue ≠ [] → awOutputs s → exec .awStall s = .next s)

/-- Tier 1. R144: the beat count enters `wr_pending`, the beats and their byte count feed W, the next request is
driven. -/
def Obligations.AwAcceptRecordsTheRequestAndFeedsW : Prop :=
  ∀ (s : State) (c : BusConfig) (h : WriteRequest) (q : List WriteRequest), s.started = true → s.fault = none →
    s.cfg = some c → s.awvalid_q = true → s.aw_queue = h :: q →
    (q = [] → exec .awAccept s =
      .next { s with
        aw_queue := []
        wr_pending := s.wr_pending.set h.id.val (s.wr_pending[h.id] ++ [h.burst_len_minus1 + 1]) h.id.isLt
        w_queue := s.w_queue ++ [{ beats := h.beats, byte_count := h.beats.length * (c.data_width_bits / 8) }]
        awvalid_q := false, awaddr_q := 0, awlen_q := 0, awid_q := 0 }) ∧
    (∀ h2 q2, q = h2 :: q2 → exec .awAccept s =
      .next { s with
        aw_queue := h2 :: q2
        wr_pending := s.wr_pending.set h.id.val (s.wr_pending[h.id] ++ [h.burst_len_minus1 + 1]) h.id.isLt
        w_queue := s.w_queue ++ [{ beats := h.beats, byte_count := h.beats.length * (c.data_width_bits / 8) }]
        awvalid_q := true, awaddr_q := h2.address, awlen_q := h2.burst_len_minus1, awid_q := h2.id })

/-- Tier 2. R148: W.IDLE presents the beat at `w_idx` of the front burst, or drives zeros. -/
def Obligations.WIdlePresentsTheFrontBeat : Prop :=
  ∀ (s : State) (wready : Bool), s.started = true → s.fault = none → s.wvalid_q = false →
    (s.w_queue = [] → exec (.wIdle wready) s = .next { s with wvalid_q := false, wdata_q := 0, wlast_q := false }) ∧
    (∀ b q v, s.w_queue = b :: q → b.beats[s.w_idx]? = some v → v < 2 ^ DW s → exec (.wIdle wready) s =
      .next { s with wvalid_q := true, wdata_q := v, wlast_q := decide (s.w_idx = b.beats.length - 1) })

/-- Tier 2. R149: W.STALL presents the same beat again, so that nothing changes where the outputs are those of
10_state.md R43 (d). -/
def Obligations.WStallHoldsTheBeat : Prop :=
  ∀ (s : State) (b : WBurst) (q : List WBurst) (v : Nat), s.started = true → s.fault = none → s.wvalid_q = true →
    s.w_queue = b :: q → b.beats[s.w_idx]? = some v → v < 2 ^ DW s →
    exec .wStall s = .next { s with wdata_q := v, wlast_q := decide (s.w_idx = b.beats.length - 1) } ∧
    (wOutputs s → exec .wStall s = .next s)

/-- Tier 2. R151: past a beat that is not final the next beat of the burst, past the final one the first beat of the
next burst, or the idle drive. -/
def Obligations.WAcceptAdvances : Prop :=
  ∀ (s : State) (b : WBurst) (q : List WBurst), s.started = true → s.fault = none → s.wvalid_q = true →
    s.w_queue = b :: q →
    (∀ v, s.w_idx + 1 < b.beats.length → b.beats[s.w_idx + 1]? = some v → v < 2 ^ DW s → exec .wAccept s =
      .next { s with
        w_idx := s.w_idx + 1
        wvalid_q := true, wdata_q := v, wlast_q := decide (s.w_idx + 1 = b.beats.length - 1) }) ∧
    (s.w_idx + 1 = b.beats.length → q = [] → exec .wAccept s =
      .next { s with w_queue := [], w_idx := 0, wvalid_q := false, wdata_q := 0, wlast_q := false }) ∧
    (∀ b2 q2 v vs, s.w_idx + 1 = b.beats.length → q = b2 :: q2 → b2.beats = v :: vs → v < 2 ^ DW s →
      exec .wAccept s =
        .next { s with
          w_queue := b2 :: q2, w_idx := 0
          wvalid_q := true, wdata_q := v, wlast_q := decide (vs = []) })

/-- Tier 1. R156. -/
def Obligations.BNobeatRaisesReadyOnly : Prop :=
  ∀ (s : State) (bvalid : Bool), s.started = true → s.fault = none →
    (s.bready_q = false → exec (.bNobeatNotReady bvalid) s = .next { s with bready_q := true }) ∧
    (s.bready_q = true → exec .bNobeatNotValid s = .next { s with bready_q := true })

/-- Tier 1. R158: the response frees the oldest outstanding write of its ID and reports its code; or it raises, the ID
check first. -/
def Obligations.BRespFreesTheWriteOrRaises : Prop :=
  ∀ (s : State) (bid : TxnId) (bresp : BitVec 2), s.started = true → s.fault = none → s.bready_q = true →
    (∀ n ns, s.wr_pending[bid] = n :: ns → s.params.enforce_okay = false ∨ bresp = 0 → exec (.bResp bid bresp) s =
      .next { s with
        wr_pending := s.wr_pending.set bid.val ns bid.isLt
        wr_completed := s.wr_completed.set bid.val (s.wr_completed[bid] ++ [bresp.toNat]) bid.isLt
        bready_q := true }) ∧
    (s.wr_pending[bid] = [] → ∃ t, exec (.bResp bid bresp) s = .next t ∧
      t.fault = some { cause := .WR_NO_OUTSTANDING, id := bid, expected := 0, got := 0 }) ∧
    (s.wr_pending[bid] ≠ [] → s.params.enforce_okay = true → bresp ≠ 0 → ∃ t, exec (.bResp bid bresp) s = .next t ∧
      t.fault = some { cause := .WR_ERROR_RESPONSE, id := bid, expected := 0, got := bresp.toNat })

/-! ## The host commands -/

/-- Tier 1. R170: the fresh instance, and InvalidArgument. The model's choices here: the fields that are not the block's
(`params`, `iface_strap`, `stimuli`) stay (entries 13, 5, 1), and a CONSTRUCT on an existing instance replaces it where
it succeeds and leaves it where it fails (entry 4; R170 says of a failed CONSTRUCT that no instance exists). -/
def Obligations.ConstructMakesAFreshInstance : Prop :=
  ∀ (s : State) (dwBits awBits : Nat), s.waiting = none → s.fault = none →
    (dwBits % 8 = 0 ∧ 8 ≤ dwBits ∧ awBits ≤ 64 → exec (.construct dwBits awBits) s =
      .next { State.reset with
        params := s.params, iface_strap := s.iface_strap, stimuli := s.stimuli
        cfg := some { interface_name := s.iface_strap, data_width_bits := dwBits, addr_width_bits := awBits }
        reply := some .ok }) ∧
    (dwBits % 8 ≠ 0 ∨ dwBits < 8 ∨ 64 < awBits → exec (.construct dwBits awBits) s =
      .next { s with reply := some .invalidArgument })

/-- Tier 1. R171. -/
def Obligations.InitStartsTheInstance : Prop :=
  ∀ (s : State) (c : BusConfig), s.cfg = some c → s.waiting = none → s.fault = none → s.started = false →
    exec .init s = .next { s with started := true, reply := some .ok }

/-- Tier 1. R172: SEND_READ queues one request at the back, or answers InvalidArgument and queues none. The hypotheses
of the first clause are the admitted domain of R179. -/
def Obligations.SendReadQueuesTheRequest : Prop :=
  ∀ (s : State) (c : BusConfig) (addr len : Nat) (id : TxnId), s.cfg = some c → s.waiting = none → s.fault = none →
    (addr % (c.data_width_bits / 8) = 0 → len % (c.data_width_bits / 8) = 0 → addr % 4096 + len ≤ 4096 →
      s.started = true → 0 < len → addr + len ≤ 2 ^ c.addr_width_bits →
      8 * len / c.data_width_bits - 1 < 2 ^ s.params.len_w →
      exec (.sendRead addr len id.val) s =
        .next { s with
          ar_queue := s.ar_queue ++
            [{ address := addr, burst_len_minus1 := 8 * len / c.data_width_bits - 1, id := id }]
          reply := some .ok }) ∧
    (addr % (c.data_width_bits / 8) ≠ 0 ∨ len % (c.data_width_bits / 8) ≠ 0 ∨ 4096 < addr % 4096 + len →
      exec (.sendRead addr len id.val) s = .next { s with reply := some .invalidArgument })

/-- Tier 1. R173: RECV_READ pops and returns the oldest completed burst of its ID, or answers NotReady. -/
def Obligations.RecvReadReturnsTheOldestBurst : Prop :=
  ∀ (s : State) (c : BusConfig) (id : TxnId), s.cfg = some c → s.waiting = none → s.fault = none → s.started = true →
    (s.rd_completed[id] = [] → exec (.recvRead id.val) s = .next { s with reply := some .notReady }) ∧
    (∀ burst bursts, s.rd_completed[id] = burst :: bursts → exec (.recvRead id.val) s =
      .next { s with
        rd_completed := s.rd_completed.set id.val bursts id.isLt
        reply := some (.okBurst burst) })

/-- Tier 1. R174: SEND_WRITE queues one request with its payload at the back, or answers InvalidArgument. The
hypotheses of the first clause are the admitted domain of R179. -/
def Obligations.SendWriteQueuesTheRequest : Prop :=
  ∀ (s : State) (c : BusConfig) (addr : Nat) (data : List Nat) (id : TxnId), s.cfg = some c → s.waiting = none →
    s.fault = none →
    (addr % (c.data_width_bits / 8) = 0 → addr % 4096 + data.length * (c.data_width_bits / 8) ≤ 4096 →
      s.started = true → data ≠ [] → (∀ v ∈ data, v < 2 ^ c.data_width_bits) →
      addr + data.length * (c.data_width_bits / 8) ≤ 2 ^ c.addr_width_bits → data.length - 1 < 2 ^ s.params.len_w →
      exec (.sendWrite addr data id.val) s =
        .next { s with
          aw_queue := s.aw_queue ++
            [{ address := addr, burst_len_minus1 := data.length - 1, id := id, beats := data }]
          reply := some .ok }) ∧
    (addr % (c.data_width_bits / 8) ≠ 0 ∨ 4096 < addr % 4096 + data.length * (c.data_width_bits / 8) →
      exec (.sendWrite addr data id.val) s = .next { s with reply := some .invalidArgument })

/-- Tier 1. R175. -/
def Obligations.RecvWriteReportsACompletedWrite : Prop :=
  ∀ (s : State) (c : BusConfig) (id : TxnId), s.cfg = some c → s.waiting = none → s.fault = none → s.started = true →
    (s.wr_completed[id] = [] → exec (.recvWrite id.val) s = .next { s with reply := some .notReady }) ∧
    (∀ code codes, s.wr_completed[id] = code :: codes → exec (.recvWrite id.val) s =
      .next { s with
        wr_completed := s.wr_completed.set id.val codes id.isLt
        reply := some .ok })

/-- Tier 1. The call part of R176 and R177: the wrapper queues what SEND_READ or SEND_WRITE queues and waits; where
that answers InvalidArgument, so does the wrapper, and no loop is entered. In the other loop shape of D24 (`poll_first`)
it polls once before it waits, and returns what is there. That the call and each turn of its loop are steps of their own
is entry 7. -/
def Obligations.WrappersSendAndThenWait : Prop :=
  ∀ (s t : State),
    (s.params.poll_first = false →
      (∀ addr len (id : TxnId), exec (.sendRead addr len id.val) s = .next t →
        exec (.read addr len id.val) s =
          .next (if t.reply = some .ok then { t with reply := none, waiting := some (.read id) } else t)) ∧
      (∀ addr data (id : TxnId), exec (.sendWrite addr data id.val) s = .next t →
        exec (.write addr data id.val) s =
          .next (if t.reply = some .ok then { t with reply := none, waiting := some (.write id) } else t))) ∧
    (s.params.poll_first = true →
      (∀ addr len (id : TxnId), exec (.sendRead addr len id.val) s = .next t →
        (t.reply ≠ some .ok → exec (.read addr len id.val) s = .next t) ∧
        (t.reply = some .ok → ∀ u, exec (.recvRead id.val) t = .next u → exec (.read addr len id.val) s =
          .next (if u.reply = some .notReady then { t with reply := none, waiting := some (.read id) } else u))) ∧
      (∀ addr data (id : TxnId), exec (.sendWrite addr data id.val) s = .next t →
        (t.reply ≠ some .ok → exec (.write addr data id.val) s = .next t) ∧
        (t.reply = some .ok → ∀ u, exec (.recvWrite id.val) t = .next u → exec (.write addr data id.val) s =
          .next (if u.reply = some .notReady then { t with reply := none, waiting := some (.write id) } else u))))

/-- Tier 1. The whole result of READ and WRITE in the admitted domain: the request is queued and the host waits, unless
the loop polls first (D24) and a completed item of that ID is there, which is then returned. Entry 7. -/
def Obligations.WrappersQueueTheirRequest : Prop :=
  ∀ (s : State) (c : BusConfig) (addr : Nat) (id : TxnId), s.cfg = some c → s.waiting = none → s.fault = none →
    s.started = true → addr % (c.data_width_bits / 8) = 0 →
    (∀ len, len % (c.data_width_bits / 8) = 0 → addr % 4096 + len ≤ 4096 → 0 < len →
      addr + len ≤ 2 ^ c.addr_width_bits → 8 * len / c.data_width_bits - 1 < 2 ^ s.params.len_w →
      (s.params.poll_first = false ∨ s.rd_completed[id] = [] → exec (.read addr len id.val) s =
        .next { s with
          ar_queue := s.ar_queue ++
            [{ address := addr, burst_len_minus1 := 8 * len / c.data_width_bits - 1, id := id }]
          reply := none, waiting := some (.read id) }) ∧
      (∀ burst bursts, s.params.poll_first = true → s.rd_completed[id] = burst :: bursts →
        exec (.read addr len id.val) s =
          .next { s with
            ar_queue := s.ar_queue ++
              [{ address := addr, burst_len_minus1 := 8 * len / c.data_width_bits - 1, id := id }]
            rd_completed := s.rd_completed.set id.val bursts id.isLt
            reply := some (.okBurst burst) })) ∧
    (∀ data, addr % 4096 + data.length * (c.data_width_bits / 8) ≤ 4096 → data ≠ [] →
      (∀ v ∈ data, v < 2 ^ c.data_width_bits) →
      addr + data.length * (c.data_width_bits / 8) ≤ 2 ^ c.addr_width_bits → data.length - 1 < 2 ^ s.params.len_w →
      (s.params.poll_first = false ∨ s.wr_completed[id] = [] → exec (.write addr data id.val) s =
        .next { s with
          aw_queue := s.aw_queue ++
            [{ address := addr, burst_len_minus1 := data.length - 1, id := id, beats := data }]
          reply := none, waiting := some (.write id) }) ∧
      (∀ code codes, s.params.poll_first = true → s.wr_completed[id] = code :: codes →
        exec (.write addr data id.val) s =
          .next { s with
            aw_queue := s.aw_queue ++
              [{ address := addr, burst_len_minus1 := data.length - 1, id := id, beats := data }]
            wr_completed := s.wr_completed.set id.val codes id.isLt
            reply := some .ok }))

/-- Tier 2. The loop part of R176: while READ waits, a TICK is a TICK and then a RECV_READ of its ID; NotReady goes on
waiting, OK returns. Entry 7. -/
def Obligations.ReadLoopIsTickThenRecvRead : Prop :=
  ∀ (s t u : State) (inp : Inputs) (id : TxnId), s.started = true → s.fault = none → s.waiting = some (.read id) →
    exec (.tick inp) { s with waiting := none } = .next t → t.fault = none →
    exec (.recvRead id.val) t = .next u →
    exec (.tick inp) s = .next (if u.reply = some .notReady then { t with waiting := some (.read id) } else u)

/-- Tier 2. The loop part of R177. Entry 7. -/
def Obligations.WriteLoopIsTickThenRecvWrite : Prop :=
  ∀ (s t u : State) (inp : Inputs) (id : TxnId), s.started = true → s.fault = none → s.waiting = some (.write id) →
    exec (.tick inp) { s with waiting := none } = .next t → t.fault = none →
    exec (.recvWrite id.val) t = .next u →
    exec (.tick inp) s = .next (if u.reply = some .notReady then { t with waiting := some (.write id) } else u)

/-- Tier 2. R179: outside its admitted domain a command has neither a result nor a next state. The conditions are asked
of a call that passes the validations of R172 and R174; that every command is refused after a fault is
`FaultedMachineOnlyResets`, while a wrapper waits `NoCommandWhileAWrapperWaits`, and reserved words are
`ReservedWordsRefusedAndNoPatternIs`. -/
def Obligations.CommandsOutsideTheAdmittedDomainAreRefused : Prop :=
  (∀ s : State, s.cfg = none →
    (∃ r, exec .init s = .refused r) ∧
    (∀ id, (∃ r, exec (.recvRead id) s = .refused r) ∧ ∃ r, exec (.recvWrite id) s = .refused r) ∧
    (∀ addr len id, (∃ r, exec (.sendRead addr len id) s = .refused r) ∧ ∃ r, exec (.read addr len id) s = .refused r) ∧
    (∀ addr data id,
      (∃ r, exec (.sendWrite addr data id) s = .refused r) ∧ ∃ r, exec (.write addr data id) s = .refused r)) ∧
  (∀ s : State, s.started = true → ∃ r, exec .init s = .refused r) ∧
  (∀ (s : State) (id : Nat), s.started = false ∨ 16 ≤ id →
    (∃ r, exec (.recvRead id) s = .refused r) ∧ ∃ r, exec (.recvWrite id) s = .refused r) ∧
  (∀ (s : State) (c : BusConfig) (addr len id : Nat), s.cfg = some c → requestValid c addr len = true →
    s.started = false ∨ 16 ≤ id ∨ len = 0 ∨ 2 ^ c.addr_width_bits < addr + len ∨
      2 ^ s.params.len_w ≤ 8 * len / c.data_width_bits - 1 →
    (∃ r, exec (.sendRead addr len id) s = .refused r) ∧ ∃ r, exec (.read addr len id) s = .refused r) ∧
  (∀ (s : State) (c : BusConfig) (addr : Nat) (data : List Nat) (id : Nat), s.cfg = some c →
    requestValid c addr (data.length * (c.data_width_bits / 8)) = true →
    s.started = false ∨ 16 ≤ id ∨ data = [] ∨ (∃ v ∈ data, 2 ^ c.data_width_bits ≤ v) ∨
      2 ^ c.addr_width_bits < addr + data.length * (c.data_width_bits / 8) ∨ 2 ^ s.params.len_w ≤ data.length - 1 →
    (∃ r, exec (.sendWrite addr data id) s = .refused r) ∧ ∃ r, exec (.write addr data id) s = .refused r)

/-- Tier 2. R228, over all commands: InvalidArgument leaves the state as it was before the call. Only the returned
status is new; `reply` holds it (entry 6). -/
def Obligations.InvalidArgumentChangesNothing : Prop :=
  ∀ (i : Instr) (s t : State), portOf i = .host → exec i s = .next t → t.reply = some .invalidArgument →
    t = { s with reply := some .invalidArgument }

/-! ## The clock step -/

/-- Perform a list of instructions one after another. -/
def performAll : List Instr → State → Result
  | [], s => .next s
  | i :: is, s =>
    match exec i s with
    | .next t => performAll is t
    | o => o

/-- The events a snapshot selects, in the order a TICK performs them: consumers first (R190, R193), or with
`SAME_TICK_VISIBLE` the producers AR and AW first (D4, entry 13). -/
def selectedEvents (s : State) (inp : Inputs) : List Instr :=
  if s.params.same_tick_visible then [arEvent s inp, awEvent s inp, rEvent s inp, bEvent s inp, wEvent s inp]
  else [rEvent s inp, bEvent s inp, wEvent s inp, arEvent s inp, awEvent s inp]

/-- Tier 2. R190: a TICK changes nothing before INIT and nothing after a fault; otherwise it performs exactly the five
events that the handshake bits of its snapshot select (30_encoding.md R79 to R83), in the order R, B, W, AR, AW. Where
they raise nothing the states agree; where they raise, the TICK records the same violation (of the rest of the state
nothing is claimed, U1). Without a waiting wrapper, whose poll is `ReadLoopIsTickThenRecvRead`. The model's choices: that
an event can be performed by itself, and what it does before INIT and after a fault (entry 11), the named fault of a
state no run reaches (entry 12), and the order under `SAME_TICK_VISIBLE` (entry 13). -/
def Obligations.TickPerformsTheFiveSelectedEvents : Prop :=
  (∀ (s : State) (inp : Inputs), s.started = false ∨ s.fault ≠ none → exec (.tick inp) s = .next s) ∧
  ∀ (s : State) (inp : Inputs), s.started = true → s.fault = none → s.waiting = none → inp.rdata < 2 ^ DW s →
    (∀ t, performAll (selectedEvents s inp) s = .next t → t.fault = none → exec (.tick inp) s = .next t) ∧
    (∀ t v, performAll (selectedEvents s inp) s = .next t → t.fault = some v →
      ∃ u, exec (.tick inp) s = .next u ∧ u.fault = some v) ∧
    (∀ f, performAll (selectedEvents s inp) s = .fault f → exec (.tick inp) s = .fault f) ∧
    (∀ r, performAll (selectedEvents s inp) s ≠ .refused r)

/-- Tier 2. 46_cycle_step.md R193: "any order with those three precedences gives the same result", here the order that
performs the whole write side before the read side. The precedences are the choice of D4; that events are performed by
themselves is entry 11. -/
def Obligations.TickOrderBetweenTheSidesDoesNotMatter : Prop :=
  ∀ (s t : State) (inp : Inputs), s.started = true → s.fault = none → s.waiting = none → inp.rdata < 2 ^ DW s →
    s.params.same_tick_visible = false →
    performAll [bEvent s inp, wEvent s inp, awEvent s inp, rEvent s inp, arEvent s inp] s = .next t →
    t.fault = none → exec (.tick inp) s = .next t

/-- Tier 2. TICK completes in every state that meets the invariants when the peer keeps its contract
(46_cycle_step.md R192: what it requires is exactly the negation of the five causes). It leaves ready raised on R and B
(R130, R155), and moves each address queue exactly where its request is accepted (R122, R140). What R and B find
outstanding under `SAME_TICK_VISIBLE` is `rdPendingSeen`, `wrPendingSeen` (entry 13). -/
def Obligations.TickCompletesWhenThePeerKeepsItsContract : Prop :=
  ∀ (s : State) (inp : Inputs), Good s → s.started = true → s.fault = none → inp.rdata < 2 ^ DW s →
    readBeatKept s inp → responseKept s inp →
    ∃ t, exec (.tick inp) s = .next t ∧ t.fault = none ∧ t.rready_q = true ∧ t.bready_q = true ∧
      t.ar_queue = (if s.arvalid_q && inp.arready then s.ar_queue.tail else s.ar_queue) ∧
      t.aw_queue = (if s.awvalid_q && inp.awready then s.aw_queue.tail else s.aw_queue)

/-- Tier 2. 46_cycle_step.md R198: a quiescent machine to which the peer sends neither a beat nor a response stays
quiescent: a TICK drives no request and no beat, and what waits to be retrieved goes on waiting. -/
def Obligations.QuiescentMachineStaysQuiescent : Prop :=
  ∀ (s : State) (inp : Inputs), Good s → Quiescent s → s.started = true → s.waiting = none → inp.rdata < 2 ^ DW s →
    rAccepted s inp = false → bAccepted s inp = false →
    exec (.tick inp) s = .next { s with rready_q := true, bready_q := true } ∧
    s.arvalid_q = false ∧ s.awvalid_q = false ∧ s.wvalid_q = false

/-- Tier 2. The converse: a peer that breaks its contract is caught at that very tick, R's violation being recorded
before B's (60_exceptions.md R222, R225 c). With `SAME_TICK_VISIBLE` as in entry 13. -/
def Obligations.TickRecordsTheViolation : Prop :=
  ∀ (s : State) (inp : Inputs), Good s → s.started = true → s.fault = none → inp.rdata < 2 ^ DW s →
    (¬ readBeatKept s inp → ∃ t v, exec (.tick inp) s = .next t ∧ t.fault = some v ∧
      (v.cause = .RD_NO_OUTSTANDING ∨ v.cause = .RD_ID_CHANGED ∨ v.cause = .RD_LENGTH_MISMATCH)) ∧
    (readBeatKept s inp → ¬ responseKept s inp → ∃ t v, exec (.tick inp) s = .next t ∧ t.fault = some v ∧
      (v.cause = .WR_NO_OUTSTANDING ∨ v.cause = .WR_ERROR_RESPONSE))

/-- Tier 1. R255: a first beat, or a response, accepted in the very cycle in which the only request of its ID is
accepted raises cause 1, or 4 (where R raises nothing). Rests on the default of SAME_TICK_VISIBLE (D4, entry 13). -/
def Obligations.DataInTheHandshakeCycleFaults : Prop :=
  ∀ (s : State) (inp : Inputs), s.started = true → s.fault = none → s.params.same_tick_visible = false →
    inp.rdata < 2 ^ DW s →
    (∀ h q, s.ar_queue = h :: q → arAccepted s inp = true → s.rd_pending[h.id] = [] → rAccepted s inp = true →
      s.r_burst_data = [] → inp.rid = h.id → ∃ t, exec (.tick inp) s = .next t ∧
      t.fault = some { cause := .RD_NO_OUTSTANDING, id := h.id, expected := 0, got := 0 }) ∧
    (∀ h q, s.aw_queue = h :: q → awAccepted s inp = true → s.wr_pending[h.id] = [] → bAccepted s inp = true →
      rAccepted s inp = false → inp.bid = h.id → ∃ t, exec (.tick inp) s = .next t ∧
      t.fault = some { cause := .WR_NO_OUTSTANDING, id := h.id, expected := 0, got := 0 })

/-- Tier 2. R263: inputs the block does not look at have no effect on a tick. Of a tick that raises, only the recorded
violation is compared (R195). -/
def Obligations.IgnoredInputsHaveNoEffect : Prop :=
  ∀ (s : State) (inp : Inputs) (rid bid : TxnId) (rdata : Nat) (rlast : Bool) (bresp : BitVec 2),
    inp.rdata < 2 ^ DW s → rdata < 2 ^ DW s →
    (s.rready_q = false ∨ inp.rvalid = false →
      Alike (exec (.tick { inp with rid := rid, rdata := rdata, rlast := rlast }) s) (exec (.tick inp) s)) ∧
    (s.bready_q = false ∨ inp.bvalid = false →
      Alike (exec (.tick { inp with bid := bid, bresp := bresp }) s) (exec (.tick inp) s))

/-- Tier 1. R250 and R251: RESET from any state, faulted or not. The configuration is kept. Of the fields that are not
the block's R250 and R251 say nothing; the model's choices are that a waiting wrapper is abandoned (entry 7), that no
returned status is left (entry 6), and that `params`, `iface_strap` and `stimuli` stay (entries 13, 5, 1). -/
def Obligations.ResetRestoresEveryItem : Prop :=
  ∀ s : State, exec .reset s =
    .next {
      params := s.params, iface_strap := s.iface_strap, stimuli := s.stimuli, reply := none, waiting := none
      cfg := s.cfg
      ar_queue := [], rd_pending := Vector.replicate 16 [], rd_completed := Vector.replicate 16 []
      r_burst_data := [], r_burst_id := 0
      arvalid_q := false, araddr_q := 0, arlen_q := 0, arid_q := 0, rready_q := false
      aw_queue := [], wr_pending := Vector.replicate 16 [], wr_completed := Vector.replicate 16 []
      w_queue := [], w_idx := 0
      awvalid_q := false, awaddr_q := 0, awlen_q := 0, awid_q := 0
      wvalid_q := false, wdata_q := 0, wlast_q := false, bready_q := false
      fault := none, started := false }

/-! ## Whole-machine rules -/

/-- Tier 2. R196: after a fault TICK changes nothing, every host command is refused, and only RESET leaves the faulted
state. -/
def Obligations.FaultedMachineOnlyResets : Prop :=
  ∀ (s : State) (v : FaultRecord), s.fault = some v →
    (∀ inp, exec (.tick inp) s = .next s) ∧
    (∀ i, portOf i = .host → ∃ r, exec i s = .refused r) ∧
    (∀ i t, exec i s = .next t → t.fault ≠ some v → i = .reset)

/-- Tier 2. Only R and B raise, on an accepted beat or response, by themselves or inside a TICK: AR, AW, W and the host
commands never set `fault` (60_exceptions.md R220, R225). -/
def Obligations.OnlyRAndBRaise : Prop :=
  ∀ (i : Instr) (s t : State), s.fault = none → exec i s = .next t → t.fault ≠ none →
    (∃ inp, i = .tick inp ∧ (rAccepted s inp = true ∨ bAccepted s inp = true)) ∨
      (∃ rid rdata, i = .rBeat rid rdata) ∨ (∃ rid rdata, i = .rLast rid rdata) ∨ ∃ bid bresp, i = .bResp bid bresp

/-- Tier 2. 10_state.md R20: the configuration is never written after CONSTRUCT, and what CONSTRUCT writes is well formed
(00_scope.md R9, R170). That `params`, `iface_strap` and `stimuli`, which stand outside the block, are never written is
the model's choice (entries 13, 5, 1). -/
def Obligations.OnlyConstructWritesTheConfiguration : Prop :=
  ∀ (i : Instr) (s t : State), exec i s = .next t →
    ((∀ dwBits awBits, i ≠ .construct dwBits awBits) → t.cfg = s.cfg) ∧
    (t.cfg = s.cfg ∨ ∃ c, t.cfg = some c ∧ c.data_width_bits % 8 = 0 ∧ 8 ≤ c.data_width_bits ∧
      c.addr_width_bits ≤ 64) ∧
    t.params = s.params ∧ t.iface_strap = s.iface_strap ∧ t.stimuli = s.stimuli

/-- Tier 2. The table of 10_state.md R42, item by item: which single operations may change an item. RESET, CONSTRUCT
and TICK are made of these and are left out; READ may take a burst, WRITE a response, only in the loop shape that polls
first (D24). Once an operation has raised, only `fault` is claimed of (R195). -/
def Obligations.EachOperationWritesOnlyItsItems : Prop :=
  ∀ (i : Instr) (s t : State), exec i s = .next t → portOf i ≠ .clock →
    (∀ dwBits awBits, i ≠ .construct dwBits awBits) →
    (t.fault ≠ s.fault → portOf i = .r ∨ portOf i = .b) ∧
    (t.fault = none →
      (t.ar_queue ≠ s.ar_queue →
        portOf i = .ar ∨ ∃ addr len id, i = .sendRead addr len id ∨ i = .read addr len id) ∧
      (t.rd_pending ≠ s.rd_pending → portOf i = .ar ∨ portOf i = .r) ∧
      (t.rd_completed ≠ s.rd_completed → portOf i = .r ∨ (∃ id, i = .recvRead id) ∨
        ∃ addr len id, i = .read addr len id ∧ s.params.poll_first = true) ∧
      (t.r_burst_data ≠ s.r_burst_data ∨ t.r_burst_id ≠ s.r_burst_id ∨ t.rready_q ≠ s.rready_q → portOf i = .r) ∧
      (t.arvalid_q ≠ s.arvalid_q ∨ t.araddr_q ≠ s.araddr_q ∨ t.arlen_q ≠ s.arlen_q ∨ t.arid_q ≠ s.arid_q →
        portOf i = .ar) ∧
      (t.aw_queue ≠ s.aw_queue →
        portOf i = .aw ∨ ∃ addr data id, i = .sendWrite addr data id ∨ i = .write addr data id) ∧
      (t.wr_pending ≠ s.wr_pending → portOf i = .aw ∨ portOf i = .b) ∧
      (t.wr_completed ≠ s.wr_completed → portOf i = .b ∨ (∃ id, i = .recvWrite id) ∨
        ∃ addr data id, i = .write addr data id ∧ s.params.poll_first = true) ∧
      (t.w_queue ≠ s.w_queue → portOf i = .aw ∨ portOf i = .w) ∧
      (t.w_idx ≠ s.w_idx ∨ t.wvalid_q ≠ s.wvalid_q ∨ t.wdata_q ≠ s.wdata_q ∨ t.wlast_q ≠ s.wlast_q →
        portOf i = .w) ∧
      (t.awvalid_q ≠ s.awvalid_q ∨ t.awaddr_q ≠ s.awaddr_q ∨ t.awlen_q ≠ s.awlen_q ∨ t.awid_q ≠ s.awid_q →
        portOf i = .aw) ∧
      (t.bready_q ≠ s.bready_q → portOf i = .b) ∧
      (t.started ≠ s.started → i = .init))

/-- Tier 2. 41_ledger.md R116 and 46_cycle_step.md R194: the read machines leave the write side as it is, the write
machines the read side; where they have raised nothing is claimed (R195). -/
def Obligations.ReadAndWriteSidesAreSeparate : Prop :=
  ∀ (i : Instr) (s t : State), exec i s = .next t → t.fault = none →
    (portOf i = .ar ∨ portOf i = .r →
      t.aw_queue = s.aw_queue ∧ t.wr_pending = s.wr_pending ∧ t.wr_completed = s.wr_completed ∧
      t.w_queue = s.w_queue ∧ t.w_idx = s.w_idx ∧ t.awvalid_q = s.awvalid_q ∧ t.awaddr_q = s.awaddr_q ∧
      t.awlen_q = s.awlen_q ∧ t.awid_q = s.awid_q ∧ t.wvalid_q = s.wvalid_q ∧ t.wdata_q = s.wdata_q ∧
      t.wlast_q = s.wlast_q ∧ t.bready_q = s.bready_q) ∧
    (portOf i = .aw ∨ portOf i = .w ∨ portOf i = .b →
      t.ar_queue = s.ar_queue ∧ t.rd_pending = s.rd_pending ∧ t.rd_completed = s.rd_completed ∧
      t.r_burst_data = s.r_burst_data ∧ t.r_burst_id = s.r_burst_id ∧ t.arvalid_q = s.arvalid_q ∧
      t.araddr_q = s.araddr_q ∧ t.arlen_q = s.arlen_q ∧ t.arid_q = s.arid_q ∧ t.rready_q = s.rready_q)

/-- Tier 2. 20_memory.md R60, R61, 42_read_address_channel.md R126: a request queue grows at the back by one call that
sends a request, and shrinks at the front by one acceptance, alone or inside a TICK; nothing else touches it but RESET
and CONSTRUCT. Where the operation has raised nothing is claimed (R195). -/
def Obligations.RequestQueuesAreFifos : Prop :=
  ∀ (i : Instr) (s t : State), exec i s = .next t → t.fault = none → i ≠ .reset →
    (∀ dwBits awBits, i ≠ .construct dwBits awBits) →
    (t.ar_queue = s.ar_queue ∨
      (∃ r, t.ar_queue = s.ar_queue ++ [r] ∧ ∃ addr len id, i = .sendRead addr len id ∨ i = .read addr len id) ∨
      ∃ h, s.ar_queue = h :: t.ar_queue ∧ s.arvalid_q = true ∧
        (i = .arAccept ∨ ∃ inp, i = .tick inp ∧ inp.arready = true)) ∧
    (t.aw_queue = s.aw_queue ∨
      (∃ r, t.aw_queue = s.aw_queue ++ [r] ∧ ∃ addr data id, i = .sendWrite addr data id ∨ i = .write addr data id) ∨
      ∃ h, s.aw_queue = h :: t.aw_queue ∧ s.awvalid_q = true ∧
        (i = .awAccept ∨ ∃ inp, i = .tick inp ∧ inp.awready = true))

/-- The state with another interface name. -/
def renamed (name : String) (s : State) : State :=
  { s with iface_strap := name, cfg := s.cfg.map fun c => { c with interface_name := name } }

/-- Tier 2. 30_encoding.md R80: the interface name changes no behaviour; a step in a renamed machine is the renamed
step. Of a step that leaves a violation recorded, only the violation is compared (46_cycle_step.md R195). -/
def Obligations.InterfaceNameChangesNoBehaviour : Prop :=
  ∀ (s : State) (name : String),
    Alike (step (renamed name s))
      (match step s with
      | .next t => .next (renamed name t)
      | .fault f => .fault f
      | .refused r => .refused r)

/-! ## Invariants -/

/-- Tier 1. The reset state meets the invariants. -/
def Obligations.ResetMeetsTheInvariants : Prop := Inv State.reset

/-- Tier 3. 10_state.md R43, R34, with the widths of R27, R29, R35, R36: every step keeps the invariants. R43 is an
inference the spec marks as its own ("derived"). -/
def Obligations.StepKeepsTheInvariants : Prop :=
  ∀ s t : State, Inv s → step s = .next t → Inv t

/-- Tier 2. What the block drives fits its signal: the widths of 30_encoding.md R71 to R75. -/
def Obligations.DrivenValuesFitTheirSignals : Prop :=
  ∀ (s : State) (c : BusConfig) (sig : Signal) (v : Nat), Good s → s.cfg = some c → driven s sig = some v →
    v < 2 ^ signalWidth c s.params sig

/-- Tier 2. 20_memory.md R69 and 42_read_address_channel.md R124: a request at the front of its queue is driven from
the tick after it reaches the front, and is held until accepted. -/
def Obligations.FrontRequestIsDrivenUntilAccepted : Prop :=
  ∀ (s t : State) (inp : Inputs), s.started = true → s.fault = none → exec (.tick inp) s = .next t → t.fault = none →
    (∀ h q, s.ar_queue = h :: q → (s.arvalid_q && inp.arready) = false →
      t.ar_queue = h :: q ∧ t.arvalid_q = true ∧ t.araddr_q = h.address ∧ t.arlen_q = h.burst_len_minus1 ∧
      t.arid_q = h.id) ∧
    (∀ h q, s.aw_queue = h :: q → (s.awvalid_q && inp.awready) = false →
      t.aw_queue = h :: q ∧ t.awvalid_q = true ∧ t.awaddr_q = h.address ∧ t.awlen_q = h.burst_len_minus1 ∧
      t.awid_q = h.id)

/-- Tier 2. 70_reset_and_hazards.md R252, which the spec marks as its own inference: in cycle 0 all outputs are 0, and
TICK 0 accepts nothing whatever the peer drives. It raises `rready` and `bready` and prepares the first request of each
queue, of those queued between INIT and TICK 0 (`commands`); the requests stay queued, and nothing else changes. -/
def Obligations.FirstTickAcceptsNothing : Prop :=
  ∀ (s t : State) (dwBits awBits : Nat) (commands : List Instr) (inp : Inputs), s.waiting = none → s.fault = none →
    dwBits % 8 = 0 → 8 ≤ dwBits → awBits ≤ 64 → inp.rdata < 2 ^ dwBits →
    (∀ i ∈ commands, portOf i = .host ∧ ∀ a b, i ≠ .construct a b) →
    performAll (.construct dwBits awBits :: .init :: commands) s = .next t →
    (∀ sig v, driven t sig = some v → v = 0) ∧
    exec (.tick inp) t = .next { t with
      rready_q := true, bready_q := true
      arvalid_q := !t.ar_queue.isEmpty
      araddr_q := (t.ar_queue.head?.map (·.address)).getD 0
      arlen_q := (t.ar_queue.head?.map (·.burst_len_minus1)).getD 0
      arid_q := (t.ar_queue.head?.map (·.id)).getD 0
      awvalid_q := !t.aw_queue.isEmpty
      awaddr_q := (t.aw_queue.head?.map (·.address)).getD 0
      awlen_q := (t.aw_queue.head?.map (·.burst_len_minus1)).getD 0
      awid_q := (t.aw_queue.head?.map (·.id)).getD 0 }

/-! ## Primitives, tables and interfaces -/

/-- Tier 1. R115: `take_completed` of either side answers NotReady (`none`) and writes nothing, or OK with the front
item, and pops it. -/
def Obligations.TakeCompletedReturnsTheFront : Prop :=
  ∀ (k : TxnId) (s : State),
    (s.rd_completed[k] = [] → takeCompletedRead k s = none) ∧
    (∀ burst bursts, s.rd_completed[k] = burst :: bursts →
      takeCompletedRead k s = some (burst, { s with rd_completed := s.rd_completed.set k.val bursts k.isLt })) ∧
    (s.wr_completed[k] = [] → takeCompletedWrite k s = none) ∧
    (∀ code codes, s.wr_completed[k] = code :: codes →
      takeCompletedWrite k s = some (code, { s with wr_completed := s.wr_completed.set k.val codes k.isLt }))

/-- Tier 2. The rows of spec/opcode_table.json (30_encoding.md R79 to R85): the first byte of every instruction's word
lies under its row, the instruction decoded from a word is one whose row its first byte lies under, and the rows of one
port do not overlap. -/
def Obligations.FirstByteLiesUnderItsRow : Prop :=
  (∀ (bw : Nat) (i : Instr), i.wellFormed bw = true →
    ∃ b rest, encode bw i = b :: rest ∧ b.toNat &&& (tableRow i).2 = (tableRow i).1) ∧
  (∀ (p : Port) (bw : Nat) (b : Byte) (bs rest : List Byte) (i : Instr), decode p bw (b :: bs) = .ok (i, rest) →
    b.toNat &&& (tableRow i).2 = (tableRow i).1) ∧
  (∀ (i j : Instr) (b : Byte), portOf i = portOf j → b.toNat &&& (tableRow i).2 = (tableRow i).1 →
    b.toNat &&& (tableRow j).2 = (tableRow j).1 → tableRow i = tableRow j)

/-- Tier 1. 45_host_commands.md R176 (e) and R177: while a READ or WRITE waits the host can issue no command; the model
refuses it by name (entry 7). -/
def Obligations.NoCommandWhileAWrapperWaits : Prop :=
  ∀ (s : State) (w : Waiting) (i : Instr), s.waiting = some w → portOf i = .host → exec i s = .refused .hostBlocked

/-- Every bus signal with its name and its width (30_encoding.md R71 to R75). -/
def signalTable (c : BusConfig) (p : Params) : List (Signal × String × Nat) :=
  [(.arvalid, "arvalid", 1), (.arready, "arready", 1), (.araddr, "araddr", c.addr_width_bits),
    (.arlen, "arlen", p.len_w), (.arid, "arid", 4)] ++
  [(.rvalid, "rvalid", 1), (.rready, "rready", 1), (.rdata, "rdata", c.data_width_bits), (.rid, "rid", 4),
    (.rlast, "rlast", 1)] ++
  [(.awvalid, "awvalid", 1), (.awready, "awready", 1), (.awaddr, "awaddr", c.addr_width_bits),
    (.awlen, "awlen", p.len_w), (.awid, "awid", 4)] ++
  [(.wvalid, "wvalid", 1), (.wready, "wready", 1), (.wdata, "wdata", c.data_width_bits), (.wlast, "wlast", 1)] ++
  [(.bvalid, "bvalid", 1), (.bready, "bready", 1), (.bid, "bid", 4), (.bresp, "bresp", 2)]

/-- Tier 1. The status codes and what follows them (30_encoding.md R86), the cause numbers (60_exceptions.md R222), and
the name and width of every signal (30_encoding.md R70 to R75). -/
def Obligations.CodesAndSignalNamesAreTheSpecs : Prop :=
  (statusCode .ok = 0 ∧ statusCode .notReady = 1 ∧ statusCode .invalidArgument = 2 ∧
    (∀ burst, statusCode (.okBurst burst) = 0 ∧ replyFields (.okBurst burst) = burst.length :: burst) ∧
    ∀ r, statusCode r ≠ 3) ∧
  (causeCode .RD_NO_OUTSTANDING = 1 ∧ causeCode .RD_ID_CHANGED = 2 ∧ causeCode .RD_LENGTH_MISMATCH = 3 ∧
    causeCode .WR_NO_OUTSTANDING = 4 ∧ causeCode .WR_ERROR_RESPONSE = 5) ∧
  ∀ (c : BusConfig) (p : Params), (∀ sig : Signal, ∃ row ∈ signalTable c p, row.1 = sig) ∧
    ∀ row ∈ signalTable c p,
      signalName c row.1 = c.interface_name ++ "_" ++ row.2.1 ∧ signalWidth c p row.1 = row.2.2

/-- Tier 2. 30_encoding.md R74 and R77: `wdata` travels as one value, or as its words, the bits of the top word that do
not exist on the bus being 0; reading the words back gives the value (40_word_codec.md R106). -/
def Obligations.WdataTravelsAsItsWords : Prop :=
  ∀ (s : State) (c : BusConfig), Good s → s.fault = none → s.cfg = some c →
    ∃ ws, wdataWords s = some ws ∧ unpack ws c.data_width_bits = s.wdata_q ∧
      (c.data_width_bits ≤ 64 → ws = [s.wdata_q]) ∧
      (64 < c.data_width_bits → ws.length = (c.data_width_bits + 31) / 32 ∧
        (∀ i, i < (c.data_width_bits + 31) / 32 → ws[i]? = some (s.wdata_q / 2 ^ (32 * i) % 2 ^ 32)) ∧
        ∀ w, ws[(c.data_width_bits + 31) / 32 - 1]? = some w →
          w < 2 ^ (c.data_width_bits - 32 * ((c.data_width_bits + 31) / 32 - 1)))
end

