-- ==== Sys2Proof/Laws/Codec.lean ====
section
/-!
SUPPORT. The sum of shifted words of `unpack`, on the words that `pack` cuts a value into.
-/

namespace Sys2Proof.Machine

/-- One word of `pack`: 32 bits of the value. -/
theorem packWord_eq (v i : Nat) : (v >>> (32 * i)) &&& 0xFFFFFFFF = v / 2 ^ (32 * i) % 2 ^ 32 := by
  rw [Nat.shiftRight_eq_div_pow, show (0xFFFFFFFF : Nat) = 2 ^ 32 - 1 from rfl, Nat.and_two_pow_sub_one_eq_mod]

/-- `n` words from word `i` up are the bits from `32 * i` up, in their place. -/
theorem orWords_packWords (n : Nat) : ∀ i v : Nat,
    orWords i ((List.range' i n).map fun j => (v >>> (32 * j)) &&& 0xFFFFFFFF) =
      (v / 2 ^ (32 * i) % 2 ^ (32 * n)) * 2 ^ (32 * i) := by
  induction n with
  | zero => intro i v; simp [orWords, Nat.mod_one]
  | succ n ih =>
    intro i v
    simp only [List.range'_succ, List.map_cons, orWords]
    rw [ih, packWord_eq]
    set a := v / 2 ^ (32 * i) with ha
    have h2 : v / 2 ^ (32 * (i + 1)) = a / 2 ^ 32 := by
      rw [ha, Nat.div_div_eq_div_mul, ← pow_add]; ring_nf
    have h3 : (2 : Nat) ^ (32 * (i + 1)) = 2 ^ 32 * 2 ^ (32 * i) := by rw [← pow_add]; ring_nf
    have h4 : a % 2 ^ (32 * (n + 1)) = a % 2 ^ 32 + 2 ^ 32 * (a / 2 ^ 32 % 2 ^ (32 * n)) := by
      rw [show 32 * (n + 1) = 32 + 32 * n by ring, pow_add, Nat.mod_mul]
    have hw : a % 2 ^ 32 < 2 ^ 32 := Nat.mod_lt _ (by norm_num)
    rw [h2]
    generalize a % 2 ^ 32 = w at hw h4 ⊢
    generalize a / 2 ^ 32 % 2 ^ (32 * n) = m at h4 ⊢
    rw [h4, h3, ← mul_assoc, ← Nat.shiftLeft_eq (m * _), ← Nat.shiftLeft_or_distrib, Nat.or_comm, Nat.mul_comm m,
      ← Nat.two_pow_add_eq_or_of_lt hw, Nat.shiftLeft_eq, Nat.add_comm]

end Sys2Proof.Machine
end

