-- ==== Sys2Proof/Laws/Slots.lean ====
section
/-!
SUPPORT. The sixteen-slot arrays: an operation on slot `k` reads and writes slot `k` only (41_ledger.md R110).
-/

namespace Sys2Proof.Machine

variable {α : Type}

@[simp] theorem setSlot_same (v : Slots α) (k : TxnId) (x : α) : (setSlot v k x)[k] = x := by simp [setSlot]

theorem setSlot_other (v : Slots α) (k j : TxnId) (x : α) (h : j ≠ k) : (setSlot v k x)[j] = v[j] := by
  have hne : k.val ≠ j.val := fun e => h (Fin.ext e.symm)
  simp [setSlot, hne]

theorem setSlot_get (v : Slots α) (k j : TxnId) (x : α) : (setSlot v k x)[j] = if j = k then x else v[j] := by
  split
  · next h => subst h; exact setSlot_same v j x
  · next h => exact setSlot_other v k j x h

/-- Putting back what a slot holds changes nothing. -/
@[simp] theorem setSlot_self (v : Slots α) (k : TxnId) : setSlot v k v[k] = v := by simp [setSlot]

theorem pushSlot_get (v : Slots (List α)) (k j : TxnId) (x : α) :
    (pushSlot v k x)[j] = if j = k then v[k] ++ [x] else v[j] := setSlot_get v k j _

theorem popSlot_get (v : Slots (List α)) (k j : TxnId) :
    (popSlot v k)[j] = if j = k then v[k].tail else v[j] := setSlot_get v k j _

end Sys2Proof.Machine
end

