-- ==== Sys2Proof/Laws/State.lean ====
section
/-!
SUPPORT. One lemma per field per named update of the state, each true by rfl: what the update writes, and that it
leaves every other field as it was. The drives of AR and AW, which match on a queue, have theirs by the same match.
-/

namespace Sys2Proof.Machine

/-! ### `takeViolation v s` -/

@[simp] theorem takeViolation_params (v : FaultRecord) (s : State) : (takeViolation v s).params = s.params := rfl
@[simp] theorem takeViolation_iface_strap (v : FaultRecord) (s : State) : (takeViolation v s).iface_strap = s.iface_strap := rfl
@[simp] theorem takeViolation_stimuli (v : FaultRecord) (s : State) : (takeViolation v s).stimuli = s.stimuli := rfl
@[simp] theorem takeViolation_reply (v : FaultRecord) (s : State) : (takeViolation v s).reply = s.reply := rfl
@[simp] theorem takeViolation_waiting (v : FaultRecord) (s : State) : (takeViolation v s).waiting = s.waiting := rfl
@[simp] theorem takeViolation_cfg (v : FaultRecord) (s : State) : (takeViolation v s).cfg = s.cfg := rfl
@[simp] theorem takeViolation_ar_queue (v : FaultRecord) (s : State) : (takeViolation v s).ar_queue = s.ar_queue := rfl
@[simp] theorem takeViolation_rd_pending (v : FaultRecord) (s : State) : (takeViolation v s).rd_pending = s.rd_pending := rfl
@[simp] theorem takeViolation_rd_completed (v : FaultRecord) (s : State) : (takeViolation v s).rd_completed = s.rd_completed := rfl
@[simp] theorem takeViolation_r_burst_data (v : FaultRecord) (s : State) : (takeViolation v s).r_burst_data = s.r_burst_data := rfl
@[simp] theorem takeViolation_r_burst_id (v : FaultRecord) (s : State) : (takeViolation v s).r_burst_id = s.r_burst_id := rfl
@[simp] theorem takeViolation_arvalid_q (v : FaultRecord) (s : State) : (takeViolation v s).arvalid_q = s.arvalid_q := rfl
@[simp] theorem takeViolation_araddr_q (v : FaultRecord) (s : State) : (takeViolation v s).araddr_q = s.araddr_q := rfl
@[simp] theorem takeViolation_arlen_q (v : FaultRecord) (s : State) : (takeViolation v s).arlen_q = s.arlen_q := rfl
@[simp] theorem takeViolation_arid_q (v : FaultRecord) (s : State) : (takeViolation v s).arid_q = s.arid_q := rfl
@[simp] theorem takeViolation_rready_q (v : FaultRecord) (s : State) : (takeViolation v s).rready_q = s.rready_q := rfl
@[simp] theorem takeViolation_aw_queue (v : FaultRecord) (s : State) : (takeViolation v s).aw_queue = s.aw_queue := rfl
@[simp] theorem takeViolation_wr_pending (v : FaultRecord) (s : State) : (takeViolation v s).wr_pending = s.wr_pending := rfl
@[simp] theorem takeViolation_wr_completed (v : FaultRecord) (s : State) : (takeViolation v s).wr_completed = s.wr_completed := rfl
@[simp] theorem takeViolation_w_queue (v : FaultRecord) (s : State) : (takeViolation v s).w_queue = s.w_queue := rfl
@[simp] theorem takeViolation_w_idx (v : FaultRecord) (s : State) : (takeViolation v s).w_idx = s.w_idx := rfl
@[simp] theorem takeViolation_awvalid_q (v : FaultRecord) (s : State) : (takeViolation v s).awvalid_q = s.awvalid_q := rfl
@[simp] theorem takeViolation_awaddr_q (v : FaultRecord) (s : State) : (takeViolation v s).awaddr_q = s.awaddr_q := rfl
@[simp] theorem takeViolation_awlen_q (v : FaultRecord) (s : State) : (takeViolation v s).awlen_q = s.awlen_q := rfl
@[simp] theorem takeViolation_awid_q (v : FaultRecord) (s : State) : (takeViolation v s).awid_q = s.awid_q := rfl
@[simp] theorem takeViolation_wvalid_q (v : FaultRecord) (s : State) : (takeViolation v s).wvalid_q = s.wvalid_q := rfl
@[simp] theorem takeViolation_wdata_q (v : FaultRecord) (s : State) : (takeViolation v s).wdata_q = s.wdata_q := rfl
@[simp] theorem takeViolation_wlast_q (v : FaultRecord) (s : State) : (takeViolation v s).wlast_q = s.wlast_q := rfl
@[simp] theorem takeViolation_bready_q (v : FaultRecord) (s : State) : (takeViolation v s).bready_q = s.bready_q := rfl
@[simp] theorem takeViolation_fault (v : FaultRecord) (s : State) : (takeViolation v s).fault = some v := rfl
@[simp] theorem takeViolation_started (v : FaultRecord) (s : State) : (takeViolation v s).started = s.started := rfl

/-! ### `respond r s` -/

@[simp] theorem respond_params (r : Reply) (s : State) : (respond r s).params = s.params := rfl
@[simp] theorem respond_iface_strap (r : Reply) (s : State) : (respond r s).iface_strap = s.iface_strap := rfl
@[simp] theorem respond_stimuli (r : Reply) (s : State) : (respond r s).stimuli = s.stimuli := rfl
@[simp] theorem respond_reply (r : Reply) (s : State) : (respond r s).reply = some r := rfl
@[simp] theorem respond_waiting (r : Reply) (s : State) : (respond r s).waiting = s.waiting := rfl
@[simp] theorem respond_cfg (r : Reply) (s : State) : (respond r s).cfg = s.cfg := rfl
@[simp] theorem respond_ar_queue (r : Reply) (s : State) : (respond r s).ar_queue = s.ar_queue := rfl
@[simp] theorem respond_rd_pending (r : Reply) (s : State) : (respond r s).rd_pending = s.rd_pending := rfl
@[simp] theorem respond_rd_completed (r : Reply) (s : State) : (respond r s).rd_completed = s.rd_completed := rfl
@[simp] theorem respond_r_burst_data (r : Reply) (s : State) : (respond r s).r_burst_data = s.r_burst_data := rfl
@[simp] theorem respond_r_burst_id (r : Reply) (s : State) : (respond r s).r_burst_id = s.r_burst_id := rfl
@[simp] theorem respond_arvalid_q (r : Reply) (s : State) : (respond r s).arvalid_q = s.arvalid_q := rfl
@[simp] theorem respond_araddr_q (r : Reply) (s : State) : (respond r s).araddr_q = s.araddr_q := rfl
@[simp] theorem respond_arlen_q (r : Reply) (s : State) : (respond r s).arlen_q = s.arlen_q := rfl
@[simp] theorem respond_arid_q (r : Reply) (s : State) : (respond r s).arid_q = s.arid_q := rfl
@[simp] theorem respond_rready_q (r : Reply) (s : State) : (respond r s).rready_q = s.rready_q := rfl
@[simp] theorem respond_aw_queue (r : Reply) (s : State) : (respond r s).aw_queue = s.aw_queue := rfl
@[simp] theorem respond_wr_pending (r : Reply) (s : State) : (respond r s).wr_pending = s.wr_pending := rfl
@[simp] theorem respond_wr_completed (r : Reply) (s : State) : (respond r s).wr_completed = s.wr_completed := rfl
@[simp] theorem respond_w_queue (r : Reply) (s : State) : (respond r s).w_queue = s.w_queue := rfl
@[simp] theorem respond_w_idx (r : Reply) (s : State) : (respond r s).w_idx = s.w_idx := rfl
@[simp] theorem respond_awvalid_q (r : Reply) (s : State) : (respond r s).awvalid_q = s.awvalid_q := rfl
@[simp] theorem respond_awaddr_q (r : Reply) (s : State) : (respond r s).awaddr_q = s.awaddr_q := rfl
@[simp] theorem respond_awlen_q (r : Reply) (s : State) : (respond r s).awlen_q = s.awlen_q := rfl
@[simp] theorem respond_awid_q (r : Reply) (s : State) : (respond r s).awid_q = s.awid_q := rfl
@[simp] theorem respond_wvalid_q (r : Reply) (s : State) : (respond r s).wvalid_q = s.wvalid_q := rfl
@[simp] theorem respond_wdata_q (r : Reply) (s : State) : (respond r s).wdata_q = s.wdata_q := rfl
@[simp] theorem respond_wlast_q (r : Reply) (s : State) : (respond r s).wlast_q = s.wlast_q := rfl
@[simp] theorem respond_bready_q (r : Reply) (s : State) : (respond r s).bready_q = s.bready_q := rfl
@[simp] theorem respond_fault (r : Reply) (s : State) : (respond r s).fault = s.fault := rfl
@[simp] theorem respond_started (r : Reply) (s : State) : (respond r s).started = s.started := rfl

/-! ### `pushPending .read k n s` -/

@[simp] theorem pushPendingRead_params (k : TxnId) (n : Nat) (s : State) : (pushPending .read k n s).params = s.params := rfl
@[simp] theorem pushPendingRead_iface_strap (k : TxnId) (n : Nat) (s : State) : (pushPending .read k n s).iface_strap = s.iface_strap := rfl
@[simp] theorem pushPendingRead_stimuli (k : TxnId) (n : Nat) (s : State) : (pushPending .read k n s).stimuli = s.stimuli := rfl
@[simp] theorem pushPendingRead_reply (k : TxnId) (n : Nat) (s : State) : (pushPending .read k n s).reply = s.reply := rfl
@[simp] theorem pushPendingRead_waiting (k : TxnId) (n : Nat) (s : State) : (pushPending .read k n s).waiting = s.waiting := rfl
@[simp] theorem pushPendingRead_cfg (k : TxnId) (n : Nat) (s : State) : (pushPending .read k n s).cfg = s.cfg := rfl
@[simp] theorem pushPendingRead_ar_queue (k : TxnId) (n : Nat) (s : State) : (pushPending .read k n s).ar_queue = s.ar_queue := rfl
@[simp] theorem pushPendingRead_rd_pending (k : TxnId) (n : Nat) (s : State) : (pushPending .read k n s).rd_pending = pushSlot s.rd_pending k n := rfl
@[simp] theorem pushPendingRead_rd_completed (k : TxnId) (n : Nat) (s : State) : (pushPending .read k n s).rd_completed = s.rd_completed := rfl
@[simp] theorem pushPendingRead_r_burst_data (k : TxnId) (n : Nat) (s : State) : (pushPending .read k n s).r_burst_data = s.r_burst_data := rfl
@[simp] theorem pushPendingRead_r_burst_id (k : TxnId) (n : Nat) (s : State) : (pushPending .read k n s).r_burst_id = s.r_burst_id := rfl
@[simp] theorem pushPendingRead_arvalid_q (k : TxnId) (n : Nat) (s : State) : (pushPending .read k n s).arvalid_q = s.arvalid_q := rfl
@[simp] theorem pushPendingRead_araddr_q (k : TxnId) (n : Nat) (s : State) : (pushPending .read k n s).araddr_q = s.araddr_q := rfl
@[simp] theorem pushPendingRead_arlen_q (k : TxnId) (n : Nat) (s : State) : (pushPending .read k n s).arlen_q = s.arlen_q := rfl
@[simp] theorem pushPendingRead_arid_q (k : TxnId) (n : Nat) (s : State) : (pushPending .read k n s).arid_q = s.arid_q := rfl
@[simp] theorem pushPendingRead_rready_q (k : TxnId) (n : Nat) (s : State) : (pushPending .read k n s).rready_q = s.rready_q := rfl
@[simp] theorem pushPendingRead_aw_queue (k : TxnId) (n : Nat) (s : State) : (pushPending .read k n s).aw_queue = s.aw_queue := rfl
@[simp] theorem pushPendingRead_wr_pending (k : TxnId) (n : Nat) (s : State) : (pushPending .read k n s).wr_pending = s.wr_pending := rfl
@[simp] theorem pushPendingRead_wr_completed (k : TxnId) (n : Nat) (s : State) : (pushPending .read k n s).wr_completed = s.wr_completed := rfl
@[simp] theorem pushPendingRead_w_queue (k : TxnId) (n : Nat) (s : State) : (pushPending .read k n s).w_queue = s.w_queue := rfl
@[simp] theorem pushPendingRead_w_idx (k : TxnId) (n : Nat) (s : State) : (pushPending .read k n s).w_idx = s.w_idx := rfl
@[simp] theorem pushPendingRead_awvalid_q (k : TxnId) (n : Nat) (s : State) : (pushPending .read k n s).awvalid_q = s.awvalid_q := rfl
@[simp] theorem pushPendingRead_awaddr_q (k : TxnId) (n : Nat) (s : State) : (pushPending .read k n s).awaddr_q = s.awaddr_q := rfl
@[simp] theorem pushPendingRead_awlen_q (k : TxnId) (n : Nat) (s : State) : (pushPending .read k n s).awlen_q = s.awlen_q := rfl
@[simp] theorem pushPendingRead_awid_q (k : TxnId) (n : Nat) (s : State) : (pushPending .read k n s).awid_q = s.awid_q := rfl
@[simp] theorem pushPendingRead_wvalid_q (k : TxnId) (n : Nat) (s : State) : (pushPending .read k n s).wvalid_q = s.wvalid_q := rfl
@[simp] theorem pushPendingRead_wdata_q (k : TxnId) (n : Nat) (s : State) : (pushPending .read k n s).wdata_q = s.wdata_q := rfl
@[simp] theorem pushPendingRead_wlast_q (k : TxnId) (n : Nat) (s : State) : (pushPending .read k n s).wlast_q = s.wlast_q := rfl
@[simp] theorem pushPendingRead_bready_q (k : TxnId) (n : Nat) (s : State) : (pushPending .read k n s).bready_q = s.bready_q := rfl
@[simp] theorem pushPendingRead_fault (k : TxnId) (n : Nat) (s : State) : (pushPending .read k n s).fault = s.fault := rfl
@[simp] theorem pushPendingRead_started (k : TxnId) (n : Nat) (s : State) : (pushPending .read k n s).started = s.started := rfl

/-! ### `pushPending .write k n s` -/

@[simp] theorem pushPendingWrite_params (k : TxnId) (n : Nat) (s : State) : (pushPending .write k n s).params = s.params := rfl
@[simp] theorem pushPendingWrite_iface_strap (k : TxnId) (n : Nat) (s : State) : (pushPending .write k n s).iface_strap = s.iface_strap := rfl
@[simp] theorem pushPendingWrite_stimuli (k : TxnId) (n : Nat) (s : State) : (pushPending .write k n s).stimuli = s.stimuli := rfl
@[simp] theorem pushPendingWrite_reply (k : TxnId) (n : Nat) (s : State) : (pushPending .write k n s).reply = s.reply := rfl
@[simp] theorem pushPendingWrite_waiting (k : TxnId) (n : Nat) (s : State) : (pushPending .write k n s).waiting = s.waiting := rfl
@[simp] theorem pushPendingWrite_cfg (k : TxnId) (n : Nat) (s : State) : (pushPending .write k n s).cfg = s.cfg := rfl
@[simp] theorem pushPendingWrite_ar_queue (k : TxnId) (n : Nat) (s : State) : (pushPending .write k n s).ar_queue = s.ar_queue := rfl
@[simp] theorem pushPendingWrite_rd_pending (k : TxnId) (n : Nat) (s : State) : (pushPending .write k n s).rd_pending = s.rd_pending := rfl
@[simp] theorem pushPendingWrite_rd_completed (k : TxnId) (n : Nat) (s : State) : (pushPending .write k n s).rd_completed = s.rd_completed := rfl
@[simp] theorem pushPendingWrite_r_burst_data (k : TxnId) (n : Nat) (s : State) : (pushPending .write k n s).r_burst_data = s.r_burst_data := rfl
@[simp] theorem pushPendingWrite_r_burst_id (k : TxnId) (n : Nat) (s : State) : (pushPending .write k n s).r_burst_id = s.r_burst_id := rfl
@[simp] theorem pushPendingWrite_arvalid_q (k : TxnId) (n : Nat) (s : State) : (pushPending .write k n s).arvalid_q = s.arvalid_q := rfl
@[simp] theorem pushPendingWrite_araddr_q (k : TxnId) (n : Nat) (s : State) : (pushPending .write k n s).araddr_q = s.araddr_q := rfl
@[simp] theorem pushPendingWrite_arlen_q (k : TxnId) (n : Nat) (s : State) : (pushPending .write k n s).arlen_q = s.arlen_q := rfl
@[simp] theorem pushPendingWrite_arid_q (k : TxnId) (n : Nat) (s : State) : (pushPending .write k n s).arid_q = s.arid_q := rfl
@[simp] theorem pushPendingWrite_rready_q (k : TxnId) (n : Nat) (s : State) : (pushPending .write k n s).rready_q = s.rready_q := rfl
@[simp] theorem pushPendingWrite_aw_queue (k : TxnId) (n : Nat) (s : State) : (pushPending .write k n s).aw_queue = s.aw_queue := rfl
@[simp] theorem pushPendingWrite_wr_pending (k : TxnId) (n : Nat) (s : State) : (pushPending .write k n s).wr_pending = pushSlot s.wr_pending k n := rfl
@[simp] theorem pushPendingWrite_wr_completed (k : TxnId) (n : Nat) (s : State) : (pushPending .write k n s).wr_completed = s.wr_completed := rfl
@[simp] theorem pushPendingWrite_w_queue (k : TxnId) (n : Nat) (s : State) : (pushPending .write k n s).w_queue = s.w_queue := rfl
@[simp] theorem pushPendingWrite_w_idx (k : TxnId) (n : Nat) (s : State) : (pushPending .write k n s).w_idx = s.w_idx := rfl
@[simp] theorem pushPendingWrite_awvalid_q (k : TxnId) (n : Nat) (s : State) : (pushPending .write k n s).awvalid_q = s.awvalid_q := rfl
@[simp] theorem pushPendingWrite_awaddr_q (k : TxnId) (n : Nat) (s : State) : (pushPending .write k n s).awaddr_q = s.awaddr_q := rfl
@[simp] theorem pushPendingWrite_awlen_q (k : TxnId) (n : Nat) (s : State) : (pushPending .write k n s).awlen_q = s.awlen_q := rfl
@[simp] theorem pushPendingWrite_awid_q (k : TxnId) (n : Nat) (s : State) : (pushPending .write k n s).awid_q = s.awid_q := rfl
@[simp] theorem pushPendingWrite_wvalid_q (k : TxnId) (n : Nat) (s : State) : (pushPending .write k n s).wvalid_q = s.wvalid_q := rfl
@[simp] theorem pushPendingWrite_wdata_q (k : TxnId) (n : Nat) (s : State) : (pushPending .write k n s).wdata_q = s.wdata_q := rfl
@[simp] theorem pushPendingWrite_wlast_q (k : TxnId) (n : Nat) (s : State) : (pushPending .write k n s).wlast_q = s.wlast_q := rfl
@[simp] theorem pushPendingWrite_bready_q (k : TxnId) (n : Nat) (s : State) : (pushPending .write k n s).bready_q = s.bready_q := rfl
@[simp] theorem pushPendingWrite_fault (k : TxnId) (n : Nat) (s : State) : (pushPending .write k n s).fault = s.fault := rfl
@[simp] theorem pushPendingWrite_started (k : TxnId) (n : Nat) (s : State) : (pushPending .write k n s).started = s.started := rfl

/-! ### `popPending .read k s` -/

@[simp] theorem popPendingRead_params (k : TxnId) (s : State) : (popPending .read k s).params = s.params := rfl
@[simp] theorem popPendingRead_iface_strap (k : TxnId) (s : State) : (popPending .read k s).iface_strap = s.iface_strap := rfl
@[simp] theorem popPendingRead_stimuli (k : TxnId) (s : State) : (popPending .read k s).stimuli = s.stimuli := rfl
@[simp] theorem popPendingRead_reply (k : TxnId) (s : State) : (popPending .read k s).reply = s.reply := rfl
@[simp] theorem popPendingRead_waiting (k : TxnId) (s : State) : (popPending .read k s).waiting = s.waiting := rfl
@[simp] theorem popPendingRead_cfg (k : TxnId) (s : State) : (popPending .read k s).cfg = s.cfg := rfl
@[simp] theorem popPendingRead_ar_queue (k : TxnId) (s : State) : (popPending .read k s).ar_queue = s.ar_queue := rfl
@[simp] theorem popPendingRead_rd_pending (k : TxnId) (s : State) : (popPending .read k s).rd_pending = popSlot s.rd_pending k := rfl
@[simp] theorem popPendingRead_rd_completed (k : TxnId) (s : State) : (popPending .read k s).rd_completed = s.rd_completed := rfl
@[simp] theorem popPendingRead_r_burst_data (k : TxnId) (s : State) : (popPending .read k s).r_burst_data = s.r_burst_data := rfl
@[simp] theorem popPendingRead_r_burst_id (k : TxnId) (s : State) : (popPending .read k s).r_burst_id = s.r_burst_id := rfl
@[simp] theorem popPendingRead_arvalid_q (k : TxnId) (s : State) : (popPending .read k s).arvalid_q = s.arvalid_q := rfl
@[simp] theorem popPendingRead_araddr_q (k : TxnId) (s : State) : (popPending .read k s).araddr_q = s.araddr_q := rfl
@[simp] theorem popPendingRead_arlen_q (k : TxnId) (s : State) : (popPending .read k s).arlen_q = s.arlen_q := rfl
@[simp] theorem popPendingRead_arid_q (k : TxnId) (s : State) : (popPending .read k s).arid_q = s.arid_q := rfl
@[simp] theorem popPendingRead_rready_q (k : TxnId) (s : State) : (popPending .read k s).rready_q = s.rready_q := rfl
@[simp] theorem popPendingRead_aw_queue (k : TxnId) (s : State) : (popPending .read k s).aw_queue = s.aw_queue := rfl
@[simp] theorem popPendingRead_wr_pending (k : TxnId) (s : State) : (popPending .read k s).wr_pending = s.wr_pending := rfl
@[simp] theorem popPendingRead_wr_completed (k : TxnId) (s : State) : (popPending .read k s).wr_completed = s.wr_completed := rfl
@[simp] theorem popPendingRead_w_queue (k : TxnId) (s : State) : (popPending .read k s).w_queue = s.w_queue := rfl
@[simp] theorem popPendingRead_w_idx (k : TxnId) (s : State) : (popPending .read k s).w_idx = s.w_idx := rfl
@[simp] theorem popPendingRead_awvalid_q (k : TxnId) (s : State) : (popPending .read k s).awvalid_q = s.awvalid_q := rfl
@[simp] theorem popPendingRead_awaddr_q (k : TxnId) (s : State) : (popPending .read k s).awaddr_q = s.awaddr_q := rfl
@[simp] theorem popPendingRead_awlen_q (k : TxnId) (s : State) : (popPending .read k s).awlen_q = s.awlen_q := rfl
@[simp] theorem popPendingRead_awid_q (k : TxnId) (s : State) : (popPending .read k s).awid_q = s.awid_q := rfl
@[simp] theorem popPendingRead_wvalid_q (k : TxnId) (s : State) : (popPending .read k s).wvalid_q = s.wvalid_q := rfl
@[simp] theorem popPendingRead_wdata_q (k : TxnId) (s : State) : (popPending .read k s).wdata_q = s.wdata_q := rfl
@[simp] theorem popPendingRead_wlast_q (k : TxnId) (s : State) : (popPending .read k s).wlast_q = s.wlast_q := rfl
@[simp] theorem popPendingRead_bready_q (k : TxnId) (s : State) : (popPending .read k s).bready_q = s.bready_q := rfl
@[simp] theorem popPendingRead_fault (k : TxnId) (s : State) : (popPending .read k s).fault = s.fault := rfl
@[simp] theorem popPendingRead_started (k : TxnId) (s : State) : (popPending .read k s).started = s.started := rfl

/-! ### `popPending .write k s` -/

@[simp] theorem popPendingWrite_params (k : TxnId) (s : State) : (popPending .write k s).params = s.params := rfl
@[simp] theorem popPendingWrite_iface_strap (k : TxnId) (s : State) : (popPending .write k s).iface_strap = s.iface_strap := rfl
@[simp] theorem popPendingWrite_stimuli (k : TxnId) (s : State) : (popPending .write k s).stimuli = s.stimuli := rfl
@[simp] theorem popPendingWrite_reply (k : TxnId) (s : State) : (popPending .write k s).reply = s.reply := rfl
@[simp] theorem popPendingWrite_waiting (k : TxnId) (s : State) : (popPending .write k s).waiting = s.waiting := rfl
@[simp] theorem popPendingWrite_cfg (k : TxnId) (s : State) : (popPending .write k s).cfg = s.cfg := rfl
@[simp] theorem popPendingWrite_ar_queue (k : TxnId) (s : State) : (popPending .write k s).ar_queue = s.ar_queue := rfl
@[simp] theorem popPendingWrite_rd_pending (k : TxnId) (s : State) : (popPending .write k s).rd_pending = s.rd_pending := rfl
@[simp] theorem popPendingWrite_rd_completed (k : TxnId) (s : State) : (popPending .write k s).rd_completed = s.rd_completed := rfl
@[simp] theorem popPendingWrite_r_burst_data (k : TxnId) (s : State) : (popPending .write k s).r_burst_data = s.r_burst_data := rfl
@[simp] theorem popPendingWrite_r_burst_id (k : TxnId) (s : State) : (popPending .write k s).r_burst_id = s.r_burst_id := rfl
@[simp] theorem popPendingWrite_arvalid_q (k : TxnId) (s : State) : (popPending .write k s).arvalid_q = s.arvalid_q := rfl
@[simp] theorem popPendingWrite_araddr_q (k : TxnId) (s : State) : (popPending .write k s).araddr_q = s.araddr_q := rfl
@[simp] theorem popPendingWrite_arlen_q (k : TxnId) (s : State) : (popPending .write k s).arlen_q = s.arlen_q := rfl
@[simp] theorem popPendingWrite_arid_q (k : TxnId) (s : State) : (popPending .write k s).arid_q = s.arid_q := rfl
@[simp] theorem popPendingWrite_rready_q (k : TxnId) (s : State) : (popPending .write k s).rready_q = s.rready_q := rfl
@[simp] theorem popPendingWrite_aw_queue (k : TxnId) (s : State) : (popPending .write k s).aw_queue = s.aw_queue := rfl
@[simp] theorem popPendingWrite_wr_pending (k : TxnId) (s : State) : (popPending .write k s).wr_pending = popSlot s.wr_pending k := rfl
@[simp] theorem popPendingWrite_wr_completed (k : TxnId) (s : State) : (popPending .write k s).wr_completed = s.wr_completed := rfl
@[simp] theorem popPendingWrite_w_queue (k : TxnId) (s : State) : (popPending .write k s).w_queue = s.w_queue := rfl
@[simp] theorem popPendingWrite_w_idx (k : TxnId) (s : State) : (popPending .write k s).w_idx = s.w_idx := rfl
@[simp] theorem popPendingWrite_awvalid_q (k : TxnId) (s : State) : (popPending .write k s).awvalid_q = s.awvalid_q := rfl
@[simp] theorem popPendingWrite_awaddr_q (k : TxnId) (s : State) : (popPending .write k s).awaddr_q = s.awaddr_q := rfl
@[simp] theorem popPendingWrite_awlen_q (k : TxnId) (s : State) : (popPending .write k s).awlen_q = s.awlen_q := rfl
@[simp] theorem popPendingWrite_awid_q (k : TxnId) (s : State) : (popPending .write k s).awid_q = s.awid_q := rfl
@[simp] theorem popPendingWrite_wvalid_q (k : TxnId) (s : State) : (popPending .write k s).wvalid_q = s.wvalid_q := rfl
@[simp] theorem popPendingWrite_wdata_q (k : TxnId) (s : State) : (popPending .write k s).wdata_q = s.wdata_q := rfl
@[simp] theorem popPendingWrite_wlast_q (k : TxnId) (s : State) : (popPending .write k s).wlast_q = s.wlast_q := rfl
@[simp] theorem popPendingWrite_bready_q (k : TxnId) (s : State) : (popPending .write k s).bready_q = s.bready_q := rfl
@[simp] theorem popPendingWrite_fault (k : TxnId) (s : State) : (popPending .write k s).fault = s.fault := rfl
@[simp] theorem popPendingWrite_started (k : TxnId) (s : State) : (popPending .write k s).started = s.started := rfl

/-! ### `pushCompletedRead k b s` -/

@[simp] theorem pushCompletedRead_params (k : TxnId) (b : List Nat) (s : State) : (pushCompletedRead k b s).params = s.params := rfl
@[simp] theorem pushCompletedRead_iface_strap (k : TxnId) (b : List Nat) (s : State) : (pushCompletedRead k b s).iface_strap = s.iface_strap := rfl
@[simp] theorem pushCompletedRead_stimuli (k : TxnId) (b : List Nat) (s : State) : (pushCompletedRead k b s).stimuli = s.stimuli := rfl
@[simp] theorem pushCompletedRead_reply (k : TxnId) (b : List Nat) (s : State) : (pushCompletedRead k b s).reply = s.reply := rfl
@[simp] theorem pushCompletedRead_waiting (k : TxnId) (b : List Nat) (s : State) : (pushCompletedRead k b s).waiting = s.waiting := rfl
@[simp] theorem pushCompletedRead_cfg (k : TxnId) (b : List Nat) (s : State) : (pushCompletedRead k b s).cfg = s.cfg := rfl
@[simp] theorem pushCompletedRead_ar_queue (k : TxnId) (b : List Nat) (s : State) : (pushCompletedRead k b s).ar_queue = s.ar_queue := rfl
@[simp] theorem pushCompletedRead_rd_pending (k : TxnId) (b : List Nat) (s : State) : (pushCompletedRead k b s).rd_pending = s.rd_pending := rfl
@[simp] theorem pushCompletedRead_rd_completed (k : TxnId) (b : List Nat) (s : State) : (pushCompletedRead k b s).rd_completed = pushSlot s.rd_completed k b := rfl
@[simp] theorem pushCompletedRead_r_burst_data (k : TxnId) (b : List Nat) (s : State) : (pushCompletedRead k b s).r_burst_data = s.r_burst_data := rfl
@[simp] theorem pushCompletedRead_r_burst_id (k : TxnId) (b : List Nat) (s : State) : (pushCompletedRead k b s).r_burst_id = s.r_burst_id := rfl
@[simp] theorem pushCompletedRead_arvalid_q (k : TxnId) (b : List Nat) (s : State) : (pushCompletedRead k b s).arvalid_q = s.arvalid_q := rfl
@[simp] theorem pushCompletedRead_araddr_q (k : TxnId) (b : List Nat) (s : State) : (pushCompletedRead k b s).araddr_q = s.araddr_q := rfl
@[simp] theorem pushCompletedRead_arlen_q (k : TxnId) (b : List Nat) (s : State) : (pushCompletedRead k b s).arlen_q = s.arlen_q := rfl
@[simp] theorem pushCompletedRead_arid_q (k : TxnId) (b : List Nat) (s : State) : (pushCompletedRead k b s).arid_q = s.arid_q := rfl
@[simp] theorem pushCompletedRead_rready_q (k : TxnId) (b : List Nat) (s : State) : (pushCompletedRead k b s).rready_q = s.rready_q := rfl
@[simp] theorem pushCompletedRead_aw_queue (k : TxnId) (b : List Nat) (s : State) : (pushCompletedRead k b s).aw_queue = s.aw_queue := rfl
@[simp] theorem pushCompletedRead_wr_pending (k : TxnId) (b : List Nat) (s : State) : (pushCompletedRead k b s).wr_pending = s.wr_pending := rfl
@[simp] theorem pushCompletedRead_wr_completed (k : TxnId) (b : List Nat) (s : State) : (pushCompletedRead k b s).wr_completed = s.wr_completed := rfl
@[simp] theorem pushCompletedRead_w_queue (k : TxnId) (b : List Nat) (s : State) : (pushCompletedRead k b s).w_queue = s.w_queue := rfl
@[simp] theorem pushCompletedRead_w_idx (k : TxnId) (b : List Nat) (s : State) : (pushCompletedRead k b s).w_idx = s.w_idx := rfl
@[simp] theorem pushCompletedRead_awvalid_q (k : TxnId) (b : List Nat) (s : State) : (pushCompletedRead k b s).awvalid_q = s.awvalid_q := rfl
@[simp] theorem pushCompletedRead_awaddr_q (k : TxnId) (b : List Nat) (s : State) : (pushCompletedRead k b s).awaddr_q = s.awaddr_q := rfl
@[simp] theorem pushCompletedRead_awlen_q (k : TxnId) (b : List Nat) (s : State) : (pushCompletedRead k b s).awlen_q = s.awlen_q := rfl
@[simp] theorem pushCompletedRead_awid_q (k : TxnId) (b : List Nat) (s : State) : (pushCompletedRead k b s).awid_q = s.awid_q := rfl
@[simp] theorem pushCompletedRead_wvalid_q (k : TxnId) (b : List Nat) (s : State) : (pushCompletedRead k b s).wvalid_q = s.wvalid_q := rfl
@[simp] theorem pushCompletedRead_wdata_q (k : TxnId) (b : List Nat) (s : State) : (pushCompletedRead k b s).wdata_q = s.wdata_q := rfl
@[simp] theorem pushCompletedRead_wlast_q (k : TxnId) (b : List Nat) (s : State) : (pushCompletedRead k b s).wlast_q = s.wlast_q := rfl
@[simp] theorem pushCompletedRead_bready_q (k : TxnId) (b : List Nat) (s : State) : (pushCompletedRead k b s).bready_q = s.bready_q := rfl
@[simp] theorem pushCompletedRead_fault (k : TxnId) (b : List Nat) (s : State) : (pushCompletedRead k b s).fault = s.fault := rfl
@[simp] theorem pushCompletedRead_started (k : TxnId) (b : List Nat) (s : State) : (pushCompletedRead k b s).started = s.started := rfl

/-! ### `pushCompletedWrite k n s` -/

@[simp] theorem pushCompletedWrite_params (k : TxnId) (n : Nat) (s : State) : (pushCompletedWrite k n s).params = s.params := rfl
@[simp] theorem pushCompletedWrite_iface_strap (k : TxnId) (n : Nat) (s : State) : (pushCompletedWrite k n s).iface_strap = s.iface_strap := rfl
@[simp] theorem pushCompletedWrite_stimuli (k : TxnId) (n : Nat) (s : State) : (pushCompletedWrite k n s).stimuli = s.stimuli := rfl
@[simp] theorem pushCompletedWrite_reply (k : TxnId) (n : Nat) (s : State) : (pushCompletedWrite k n s).reply = s.reply := rfl
@[simp] theorem pushCompletedWrite_waiting (k : TxnId) (n : Nat) (s : State) : (pushCompletedWrite k n s).waiting = s.waiting := rfl
@[simp] theorem pushCompletedWrite_cfg (k : TxnId) (n : Nat) (s : State) : (pushCompletedWrite k n s).cfg = s.cfg := rfl
@[simp] theorem pushCompletedWrite_ar_queue (k : TxnId) (n : Nat) (s : State) : (pushCompletedWrite k n s).ar_queue = s.ar_queue := rfl
@[simp] theorem pushCompletedWrite_rd_pending (k : TxnId) (n : Nat) (s : State) : (pushCompletedWrite k n s).rd_pending = s.rd_pending := rfl
@[simp] theorem pushCompletedWrite_rd_completed (k : TxnId) (n : Nat) (s : State) : (pushCompletedWrite k n s).rd_completed = s.rd_completed := rfl
@[simp] theorem pushCompletedWrite_r_burst_data (k : TxnId) (n : Nat) (s : State) : (pushCompletedWrite k n s).r_burst_data = s.r_burst_data := rfl
@[simp] theorem pushCompletedWrite_r_burst_id (k : TxnId) (n : Nat) (s : State) : (pushCompletedWrite k n s).r_burst_id = s.r_burst_id := rfl
@[simp] theorem pushCompletedWrite_arvalid_q (k : TxnId) (n : Nat) (s : State) : (pushCompletedWrite k n s).arvalid_q = s.arvalid_q := rfl
@[simp] theorem pushCompletedWrite_araddr_q (k : TxnId) (n : Nat) (s : State) : (pushCompletedWrite k n s).araddr_q = s.araddr_q := rfl
@[simp] theorem pushCompletedWrite_arlen_q (k : TxnId) (n : Nat) (s : State) : (pushCompletedWrite k n s).arlen_q = s.arlen_q := rfl
@[simp] theorem pushCompletedWrite_arid_q (k : TxnId) (n : Nat) (s : State) : (pushCompletedWrite k n s).arid_q = s.arid_q := rfl
@[simp] theorem pushCompletedWrite_rready_q (k : TxnId) (n : Nat) (s : State) : (pushCompletedWrite k n s).rready_q = s.rready_q := rfl
@[simp] theorem pushCompletedWrite_aw_queue (k : TxnId) (n : Nat) (s : State) : (pushCompletedWrite k n s).aw_queue = s.aw_queue := rfl
@[simp] theorem pushCompletedWrite_wr_pending (k : TxnId) (n : Nat) (s : State) : (pushCompletedWrite k n s).wr_pending = s.wr_pending := rfl
@[simp] theorem pushCompletedWrite_wr_completed (k : TxnId) (n : Nat) (s : State) : (pushCompletedWrite k n s).wr_completed = pushSlot s.wr_completed k n := rfl
@[simp] theorem pushCompletedWrite_w_queue (k : TxnId) (n : Nat) (s : State) : (pushCompletedWrite k n s).w_queue = s.w_queue := rfl
@[simp] theorem pushCompletedWrite_w_idx (k : TxnId) (n : Nat) (s : State) : (pushCompletedWrite k n s).w_idx = s.w_idx := rfl
@[simp] theorem pushCompletedWrite_awvalid_q (k : TxnId) (n : Nat) (s : State) : (pushCompletedWrite k n s).awvalid_q = s.awvalid_q := rfl
@[simp] theorem pushCompletedWrite_awaddr_q (k : TxnId) (n : Nat) (s : State) : (pushCompletedWrite k n s).awaddr_q = s.awaddr_q := rfl
@[simp] theorem pushCompletedWrite_awlen_q (k : TxnId) (n : Nat) (s : State) : (pushCompletedWrite k n s).awlen_q = s.awlen_q := rfl
@[simp] theorem pushCompletedWrite_awid_q (k : TxnId) (n : Nat) (s : State) : (pushCompletedWrite k n s).awid_q = s.awid_q := rfl
@[simp] theorem pushCompletedWrite_wvalid_q (k : TxnId) (n : Nat) (s : State) : (pushCompletedWrite k n s).wvalid_q = s.wvalid_q := rfl
@[simp] theorem pushCompletedWrite_wdata_q (k : TxnId) (n : Nat) (s : State) : (pushCompletedWrite k n s).wdata_q = s.wdata_q := rfl
@[simp] theorem pushCompletedWrite_wlast_q (k : TxnId) (n : Nat) (s : State) : (pushCompletedWrite k n s).wlast_q = s.wlast_q := rfl
@[simp] theorem pushCompletedWrite_bready_q (k : TxnId) (n : Nat) (s : State) : (pushCompletedWrite k n s).bready_q = s.bready_q := rfl
@[simp] theorem pushCompletedWrite_fault (k : TxnId) (n : Nat) (s : State) : (pushCompletedWrite k n s).fault = s.fault := rfl
@[simp] theorem pushCompletedWrite_started (k : TxnId) (n : Nat) (s : State) : (pushCompletedWrite k n s).started = s.started := rfl

/-! ### `rDriveReady s` -/

@[simp] theorem rDriveReady_params (s : State) : (rDriveReady s).params = s.params := rfl
@[simp] theorem rDriveReady_iface_strap (s : State) : (rDriveReady s).iface_strap = s.iface_strap := rfl
@[simp] theorem rDriveReady_stimuli (s : State) : (rDriveReady s).stimuli = s.stimuli := rfl
@[simp] theorem rDriveReady_reply (s : State) : (rDriveReady s).reply = s.reply := rfl
@[simp] theorem rDriveReady_waiting (s : State) : (rDriveReady s).waiting = s.waiting := rfl
@[simp] theorem rDriveReady_cfg (s : State) : (rDriveReady s).cfg = s.cfg := rfl
@[simp] theorem rDriveReady_ar_queue (s : State) : (rDriveReady s).ar_queue = s.ar_queue := rfl
@[simp] theorem rDriveReady_rd_pending (s : State) : (rDriveReady s).rd_pending = s.rd_pending := rfl
@[simp] theorem rDriveReady_rd_completed (s : State) : (rDriveReady s).rd_completed = s.rd_completed := rfl
@[simp] theorem rDriveReady_r_burst_data (s : State) : (rDriveReady s).r_burst_data = s.r_burst_data := rfl
@[simp] theorem rDriveReady_r_burst_id (s : State) : (rDriveReady s).r_burst_id = s.r_burst_id := rfl
@[simp] theorem rDriveReady_arvalid_q (s : State) : (rDriveReady s).arvalid_q = s.arvalid_q := rfl
@[simp] theorem rDriveReady_araddr_q (s : State) : (rDriveReady s).araddr_q = s.araddr_q := rfl
@[simp] theorem rDriveReady_arlen_q (s : State) : (rDriveReady s).arlen_q = s.arlen_q := rfl
@[simp] theorem rDriveReady_arid_q (s : State) : (rDriveReady s).arid_q = s.arid_q := rfl
@[simp] theorem rDriveReady_rready_q (s : State) : (rDriveReady s).rready_q = true := rfl
@[simp] theorem rDriveReady_aw_queue (s : State) : (rDriveReady s).aw_queue = s.aw_queue := rfl
@[simp] theorem rDriveReady_wr_pending (s : State) : (rDriveReady s).wr_pending = s.wr_pending := rfl
@[simp] theorem rDriveReady_wr_completed (s : State) : (rDriveReady s).wr_completed = s.wr_completed := rfl
@[simp] theorem rDriveReady_w_queue (s : State) : (rDriveReady s).w_queue = s.w_queue := rfl
@[simp] theorem rDriveReady_w_idx (s : State) : (rDriveReady s).w_idx = s.w_idx := rfl
@[simp] theorem rDriveReady_awvalid_q (s : State) : (rDriveReady s).awvalid_q = s.awvalid_q := rfl
@[simp] theorem rDriveReady_awaddr_q (s : State) : (rDriveReady s).awaddr_q = s.awaddr_q := rfl
@[simp] theorem rDriveReady_awlen_q (s : State) : (rDriveReady s).awlen_q = s.awlen_q := rfl
@[simp] theorem rDriveReady_awid_q (s : State) : (rDriveReady s).awid_q = s.awid_q := rfl
@[simp] theorem rDriveReady_wvalid_q (s : State) : (rDriveReady s).wvalid_q = s.wvalid_q := rfl
@[simp] theorem rDriveReady_wdata_q (s : State) : (rDriveReady s).wdata_q = s.wdata_q := rfl
@[simp] theorem rDriveReady_wlast_q (s : State) : (rDriveReady s).wlast_q = s.wlast_q := rfl
@[simp] theorem rDriveReady_bready_q (s : State) : (rDriveReady s).bready_q = s.bready_q := rfl
@[simp] theorem rDriveReady_fault (s : State) : (rDriveReady s).fault = s.fault := rfl
@[simp] theorem rDriveReady_started (s : State) : (rDriveReady s).started = s.started := rfl

/-! ### `bDriveReady s` -/

@[simp] theorem bDriveReady_params (s : State) : (bDriveReady s).params = s.params := rfl
@[simp] theorem bDriveReady_iface_strap (s : State) : (bDriveReady s).iface_strap = s.iface_strap := rfl
@[simp] theorem bDriveReady_stimuli (s : State) : (bDriveReady s).stimuli = s.stimuli := rfl
@[simp] theorem bDriveReady_reply (s : State) : (bDriveReady s).reply = s.reply := rfl
@[simp] theorem bDriveReady_waiting (s : State) : (bDriveReady s).waiting = s.waiting := rfl
@[simp] theorem bDriveReady_cfg (s : State) : (bDriveReady s).cfg = s.cfg := rfl
@[simp] theorem bDriveReady_ar_queue (s : State) : (bDriveReady s).ar_queue = s.ar_queue := rfl
@[simp] theorem bDriveReady_rd_pending (s : State) : (bDriveReady s).rd_pending = s.rd_pending := rfl
@[simp] theorem bDriveReady_rd_completed (s : State) : (bDriveReady s).rd_completed = s.rd_completed := rfl
@[simp] theorem bDriveReady_r_burst_data (s : State) : (bDriveReady s).r_burst_data = s.r_burst_data := rfl
@[simp] theorem bDriveReady_r_burst_id (s : State) : (bDriveReady s).r_burst_id = s.r_burst_id := rfl
@[simp] theorem bDriveReady_arvalid_q (s : State) : (bDriveReady s).arvalid_q = s.arvalid_q := rfl
@[simp] theorem bDriveReady_araddr_q (s : State) : (bDriveReady s).araddr_q = s.araddr_q := rfl
@[simp] theorem bDriveReady_arlen_q (s : State) : (bDriveReady s).arlen_q = s.arlen_q := rfl
@[simp] theorem bDriveReady_arid_q (s : State) : (bDriveReady s).arid_q = s.arid_q := rfl
@[simp] theorem bDriveReady_rready_q (s : State) : (bDriveReady s).rready_q = s.rready_q := rfl
@[simp] theorem bDriveReady_aw_queue (s : State) : (bDriveReady s).aw_queue = s.aw_queue := rfl
@[simp] theorem bDriveReady_wr_pending (s : State) : (bDriveReady s).wr_pending = s.wr_pending := rfl
@[simp] theorem bDriveReady_wr_completed (s : State) : (bDriveReady s).wr_completed = s.wr_completed := rfl
@[simp] theorem bDriveReady_w_queue (s : State) : (bDriveReady s).w_queue = s.w_queue := rfl
@[simp] theorem bDriveReady_w_idx (s : State) : (bDriveReady s).w_idx = s.w_idx := rfl
@[simp] theorem bDriveReady_awvalid_q (s : State) : (bDriveReady s).awvalid_q = s.awvalid_q := rfl
@[simp] theorem bDriveReady_awaddr_q (s : State) : (bDriveReady s).awaddr_q = s.awaddr_q := rfl
@[simp] theorem bDriveReady_awlen_q (s : State) : (bDriveReady s).awlen_q = s.awlen_q := rfl
@[simp] theorem bDriveReady_awid_q (s : State) : (bDriveReady s).awid_q = s.awid_q := rfl
@[simp] theorem bDriveReady_wvalid_q (s : State) : (bDriveReady s).wvalid_q = s.wvalid_q := rfl
@[simp] theorem bDriveReady_wdata_q (s : State) : (bDriveReady s).wdata_q = s.wdata_q := rfl
@[simp] theorem bDriveReady_wlast_q (s : State) : (bDriveReady s).wlast_q = s.wlast_q := rfl
@[simp] theorem bDriveReady_bready_q (s : State) : (bDriveReady s).bready_q = true := rfl
@[simp] theorem bDriveReady_fault (s : State) : (bDriveReady s).fault = s.fault := rfl
@[simp] theorem bDriveReady_started (s : State) : (bDriveReady s).started = s.started := rfl

/-! ### `freshInstance cfg s` -/

@[simp] theorem freshInstance_params (cfg : Option BusConfig) (s : State) : (freshInstance cfg s).params = s.params := rfl
@[simp] theorem freshInstance_iface_strap (cfg : Option BusConfig) (s : State) : (freshInstance cfg s).iface_strap = s.iface_strap := rfl
@[simp] theorem freshInstance_stimuli (cfg : Option BusConfig) (s : State) : (freshInstance cfg s).stimuli = s.stimuli := rfl
@[simp] theorem freshInstance_reply (cfg : Option BusConfig) (s : State) : (freshInstance cfg s).reply = State.reset.reply := rfl
@[simp] theorem freshInstance_waiting (cfg : Option BusConfig) (s : State) : (freshInstance cfg s).waiting = State.reset.waiting := rfl
@[simp] theorem freshInstance_cfg (cfg : Option BusConfig) (s : State) : (freshInstance cfg s).cfg = cfg := rfl
@[simp] theorem freshInstance_ar_queue (cfg : Option BusConfig) (s : State) : (freshInstance cfg s).ar_queue = State.reset.ar_queue := rfl
@[simp] theorem freshInstance_rd_pending (cfg : Option BusConfig) (s : State) : (freshInstance cfg s).rd_pending = State.reset.rd_pending := rfl
@[simp] theorem freshInstance_rd_completed (cfg : Option BusConfig) (s : State) : (freshInstance cfg s).rd_completed = State.reset.rd_completed := rfl
@[simp] theorem freshInstance_r_burst_data (cfg : Option BusConfig) (s : State) : (freshInstance cfg s).r_burst_data = State.reset.r_burst_data := rfl
@[simp] theorem freshInstance_r_burst_id (cfg : Option BusConfig) (s : State) : (freshInstance cfg s).r_burst_id = State.reset.r_burst_id := rfl
@[simp] theorem freshInstance_arvalid_q (cfg : Option BusConfig) (s : State) : (freshInstance cfg s).arvalid_q = State.reset.arvalid_q := rfl
@[simp] theorem freshInstance_araddr_q (cfg : Option BusConfig) (s : State) : (freshInstance cfg s).araddr_q = State.reset.araddr_q := rfl
@[simp] theorem freshInstance_arlen_q (cfg : Option BusConfig) (s : State) : (freshInstance cfg s).arlen_q = State.reset.arlen_q := rfl
@[simp] theorem freshInstance_arid_q (cfg : Option BusConfig) (s : State) : (freshInstance cfg s).arid_q = State.reset.arid_q := rfl
@[simp] theorem freshInstance_rready_q (cfg : Option BusConfig) (s : State) : (freshInstance cfg s).rready_q = State.reset.rready_q := rfl
@[simp] theorem freshInstance_aw_queue (cfg : Option BusConfig) (s : State) : (freshInstance cfg s).aw_queue = State.reset.aw_queue := rfl
@[simp] theorem freshInstance_wr_pending (cfg : Option BusConfig) (s : State) : (freshInstance cfg s).wr_pending = State.reset.wr_pending := rfl
@[simp] theorem freshInstance_wr_completed (cfg : Option BusConfig) (s : State) : (freshInstance cfg s).wr_completed = State.reset.wr_completed := rfl
@[simp] theorem freshInstance_w_queue (cfg : Option BusConfig) (s : State) : (freshInstance cfg s).w_queue = State.reset.w_queue := rfl
@[simp] theorem freshInstance_w_idx (cfg : Option BusConfig) (s : State) : (freshInstance cfg s).w_idx = State.reset.w_idx := rfl
@[simp] theorem freshInstance_awvalid_q (cfg : Option BusConfig) (s : State) : (freshInstance cfg s).awvalid_q = State.reset.awvalid_q := rfl
@[simp] theorem freshInstance_awaddr_q (cfg : Option BusConfig) (s : State) : (freshInstance cfg s).awaddr_q = State.reset.awaddr_q := rfl
@[simp] theorem freshInstance_awlen_q (cfg : Option BusConfig) (s : State) : (freshInstance cfg s).awlen_q = State.reset.awlen_q := rfl
@[simp] theorem freshInstance_awid_q (cfg : Option BusConfig) (s : State) : (freshInstance cfg s).awid_q = State.reset.awid_q := rfl
@[simp] theorem freshInstance_wvalid_q (cfg : Option BusConfig) (s : State) : (freshInstance cfg s).wvalid_q = State.reset.wvalid_q := rfl
@[simp] theorem freshInstance_wdata_q (cfg : Option BusConfig) (s : State) : (freshInstance cfg s).wdata_q = State.reset.wdata_q := rfl
@[simp] theorem freshInstance_wlast_q (cfg : Option BusConfig) (s : State) : (freshInstance cfg s).wlast_q = State.reset.wlast_q := rfl
@[simp] theorem freshInstance_bready_q (cfg : Option BusConfig) (s : State) : (freshInstance cfg s).bready_q = State.reset.bready_q := rfl
@[simp] theorem freshInstance_fault (cfg : Option BusConfig) (s : State) : (freshInstance cfg s).fault = State.reset.fault := rfl
@[simp] theorem freshInstance_started (cfg : Option BusConfig) (s : State) : (freshInstance cfg s).started = State.reset.started := rfl

/-! ### `arDrive s`, but for its own four registers -/

@[simp] theorem arDrive_params (s : State) : (arDrive s).params = s.params := by unfold arDrive; split <;> rfl
@[simp] theorem arDrive_iface_strap (s : State) : (arDrive s).iface_strap = s.iface_strap := by unfold arDrive; split <;> rfl
@[simp] theorem arDrive_stimuli (s : State) : (arDrive s).stimuli = s.stimuli := by unfold arDrive; split <;> rfl
@[simp] theorem arDrive_reply (s : State) : (arDrive s).reply = s.reply := by unfold arDrive; split <;> rfl
@[simp] theorem arDrive_waiting (s : State) : (arDrive s).waiting = s.waiting := by unfold arDrive; split <;> rfl
@[simp] theorem arDrive_cfg (s : State) : (arDrive s).cfg = s.cfg := by unfold arDrive; split <;> rfl
@[simp] theorem arDrive_ar_queue (s : State) : (arDrive s).ar_queue = s.ar_queue := by unfold arDrive; split <;> rfl
@[simp] theorem arDrive_rd_pending (s : State) : (arDrive s).rd_pending = s.rd_pending := by unfold arDrive; split <;> rfl
@[simp] theorem arDrive_rd_completed (s : State) : (arDrive s).rd_completed = s.rd_completed := by unfold arDrive; split <;> rfl
@[simp] theorem arDrive_r_burst_data (s : State) : (arDrive s).r_burst_data = s.r_burst_data := by unfold arDrive; split <;> rfl
@[simp] theorem arDrive_r_burst_id (s : State) : (arDrive s).r_burst_id = s.r_burst_id := by unfold arDrive; split <;> rfl
@[simp] theorem arDrive_rready_q (s : State) : (arDrive s).rready_q = s.rready_q := by unfold arDrive; split <;> rfl
@[simp] theorem arDrive_aw_queue (s : State) : (arDrive s).aw_queue = s.aw_queue := by unfold arDrive; split <;> rfl
@[simp] theorem arDrive_wr_pending (s : State) : (arDrive s).wr_pending = s.wr_pending := by unfold arDrive; split <;> rfl
@[simp] theorem arDrive_wr_completed (s : State) : (arDrive s).wr_completed = s.wr_completed := by unfold arDrive; split <;> rfl
@[simp] theorem arDrive_w_queue (s : State) : (arDrive s).w_queue = s.w_queue := by unfold arDrive; split <;> rfl
@[simp] theorem arDrive_w_idx (s : State) : (arDrive s).w_idx = s.w_idx := by unfold arDrive; split <;> rfl
@[simp] theorem arDrive_awvalid_q (s : State) : (arDrive s).awvalid_q = s.awvalid_q := by unfold arDrive; split <;> rfl
@[simp] theorem arDrive_awaddr_q (s : State) : (arDrive s).awaddr_q = s.awaddr_q := by unfold arDrive; split <;> rfl
@[simp] theorem arDrive_awlen_q (s : State) : (arDrive s).awlen_q = s.awlen_q := by unfold arDrive; split <;> rfl
@[simp] theorem arDrive_awid_q (s : State) : (arDrive s).awid_q = s.awid_q := by unfold arDrive; split <;> rfl
@[simp] theorem arDrive_wvalid_q (s : State) : (arDrive s).wvalid_q = s.wvalid_q := by unfold arDrive; split <;> rfl
@[simp] theorem arDrive_wdata_q (s : State) : (arDrive s).wdata_q = s.wdata_q := by unfold arDrive; split <;> rfl
@[simp] theorem arDrive_wlast_q (s : State) : (arDrive s).wlast_q = s.wlast_q := by unfold arDrive; split <;> rfl
@[simp] theorem arDrive_bready_q (s : State) : (arDrive s).bready_q = s.bready_q := by unfold arDrive; split <;> rfl
@[simp] theorem arDrive_fault (s : State) : (arDrive s).fault = s.fault := by unfold arDrive; split <;> rfl
@[simp] theorem arDrive_started (s : State) : (arDrive s).started = s.started := by unfold arDrive; split <;> rfl

/-! ### `awDrive s`, but for its own four registers -/

@[simp] theorem awDrive_params (s : State) : (awDrive s).params = s.params := by unfold awDrive; split <;> rfl
@[simp] theorem awDrive_iface_strap (s : State) : (awDrive s).iface_strap = s.iface_strap := by unfold awDrive; split <;> rfl
@[simp] theorem awDrive_stimuli (s : State) : (awDrive s).stimuli = s.stimuli := by unfold awDrive; split <;> rfl
@[simp] theorem awDrive_reply (s : State) : (awDrive s).reply = s.reply := by unfold awDrive; split <;> rfl
@[simp] theorem awDrive_waiting (s : State) : (awDrive s).waiting = s.waiting := by unfold awDrive; split <;> rfl
@[simp] theorem awDrive_cfg (s : State) : (awDrive s).cfg = s.cfg := by unfold awDrive; split <;> rfl
@[simp] theorem awDrive_ar_queue (s : State) : (awDrive s).ar_queue = s.ar_queue := by unfold awDrive; split <;> rfl
@[simp] theorem awDrive_rd_pending (s : State) : (awDrive s).rd_pending = s.rd_pending := by unfold awDrive; split <;> rfl
@[simp] theorem awDrive_rd_completed (s : State) : (awDrive s).rd_completed = s.rd_completed := by unfold awDrive; split <;> rfl
@[simp] theorem awDrive_r_burst_data (s : State) : (awDrive s).r_burst_data = s.r_burst_data := by unfold awDrive; split <;> rfl
@[simp] theorem awDrive_r_burst_id (s : State) : (awDrive s).r_burst_id = s.r_burst_id := by unfold awDrive; split <;> rfl
@[simp] theorem awDrive_arvalid_q (s : State) : (awDrive s).arvalid_q = s.arvalid_q := by unfold awDrive; split <;> rfl
@[simp] theorem awDrive_araddr_q (s : State) : (awDrive s).araddr_q = s.araddr_q := by unfold awDrive; split <;> rfl
@[simp] theorem awDrive_arlen_q (s : State) : (awDrive s).arlen_q = s.arlen_q := by unfold awDrive; split <;> rfl
@[simp] theorem awDrive_arid_q (s : State) : (awDrive s).arid_q = s.arid_q := by unfold awDrive; split <;> rfl
@[simp] theorem awDrive_rready_q (s : State) : (awDrive s).rready_q = s.rready_q := by unfold awDrive; split <;> rfl
@[simp] theorem awDrive_aw_queue (s : State) : (awDrive s).aw_queue = s.aw_queue := by unfold awDrive; split <;> rfl
@[simp] theorem awDrive_wr_pending (s : State) : (awDrive s).wr_pending = s.wr_pending := by unfold awDrive; split <;> rfl
@[simp] theorem awDrive_wr_completed (s : State) : (awDrive s).wr_completed = s.wr_completed := by unfold awDrive; split <;> rfl
@[simp] theorem awDrive_w_queue (s : State) : (awDrive s).w_queue = s.w_queue := by unfold awDrive; split <;> rfl
@[simp] theorem awDrive_w_idx (s : State) : (awDrive s).w_idx = s.w_idx := by unfold awDrive; split <;> rfl
@[simp] theorem awDrive_wvalid_q (s : State) : (awDrive s).wvalid_q = s.wvalid_q := by unfold awDrive; split <;> rfl
@[simp] theorem awDrive_wdata_q (s : State) : (awDrive s).wdata_q = s.wdata_q := by unfold awDrive; split <;> rfl
@[simp] theorem awDrive_wlast_q (s : State) : (awDrive s).wlast_q = s.wlast_q := by unfold awDrive; split <;> rfl
@[simp] theorem awDrive_bready_q (s : State) : (awDrive s).bready_q = s.bready_q := by unfold awDrive; split <;> rfl
@[simp] theorem awDrive_fault (s : State) : (awDrive s).fault = s.fault := by unfold awDrive; split <;> rfl
@[simp] theorem awDrive_started (s : State) : (awDrive s).started = s.started := by unfold awDrive; split <;> rfl

end Sys2Proof.Machine
end

