-- ==== Sys2Proof/Laws/Ops.lean ====
section
/-!
SUPPORT. For each shared operation one lemma that says everything it can do: if it completes, one of these cases
holds. Proofs cite these and need not unfold the operations again.
-/

namespace Sys2Proof.Machine

theorem bind_ok_iff {ε α β : Type} (x : Except ε α) (f : α → Except ε β) (b : β) :
    x.bind f = .ok b ↔ ∃ a, x = .ok a ∧ f a = .ok b := by
  cases x <;> simp [Except.bind]

theorem bind_error_iff {ε α β : Type} (x : Except ε α) (f : α → Except ε β) (e : ε) :
    x.bind f = .error e ↔ x = .error e ∨ ∃ a, x = .ok a ∧ f a = .error e := by
  cases x <;> simp [Except.bind]

/-! ## Ends of events and commands -/

theorem settle_next {s t : State} {r : Except Halt State} (h : settle s r = .next t) :
    r = .ok t ∨ ∃ v, r = .error (.violation v) ∧ t = takeViolation v s := by
  unfold settle at h
  split at h
  · simp_all
  · next v => exact .inr ⟨v, rfl, by simpa using h.symm⟩
  · cases h

theorem channelEvent_next {sel : Bool} {ev : State → Except Halt State} {s t : State}
    (h : channelEvent sel ev s = .next t) :
    (running s = false ∧ t = s) ∨
      (running s = true ∧ sel = true ∧ (ev s = .ok t ∨ ∃ v, ev s = .error (.violation v) ∧ t = takeViolation v s)) := by
  unfold channelEvent at h
  split at h
  · next hr => exact .inl ⟨by simpa using hr, by simpa using h.symm⟩
  · next hr =>
    split at h
    · cases h
    · next hs => exact .inr ⟨by simpa using hr, by simpa using hs, settle_next h⟩

/-- The width of the bus is the configuration's. -/
theorem DW_congr {s t : State} (h : t.cfg = s.cfg) : DW t = DW s := by
  simp [DW, h]

/-- What the snapshot presents is `pack` of a value that fits the bus. -/
theorem snapshotWords_some {s : State} {rdata : Nat} {words : List Nat} (h : snapshotWords s rdata = some words) :
    rdata < 2 ^ DW s ∧ pack rdata (DW s) = some words := by
  unfold snapshotWords fitsBus at h
  split at h
  · next hf => exact ⟨by simpa using hf, h⟩
  · cases h

/-- Every value that fits the bus is presented. -/
theorem snapshotWords_of_lt {s : State} {rdata : Nat} (h : rdata < 2 ^ DW s) :
    snapshotWords s rdata = pack rdata (DW s) := by
  simp [snapshotWords, fitsBus, h]

/-- The snapshot depends on the width of the bus only. -/
theorem snapshotWords_congr {s t : State} (h : t.cfg = s.cfg) (rdata : Nat) :
    snapshotWords t rdata = snapshotWords s rdata := by
  simp [snapshotWords, fitsBus, DW_congr h]

theorem dataEvent_next {sel : Bool} {rdata : Nat} {ev : List Nat → State → Except Halt State} {s t : State}
    (h : dataEvent sel rdata ev s = .next t) :
    (running s = false ∧ t = s) ∨
      (running s = true ∧ ∃ words, snapshotWords s rdata = some words ∧ sel = true ∧
        (ev words s = .ok t ∨ ∃ v, ev words s = .error (.violation v) ∧ t = takeViolation v s)) := by
  unfold dataEvent at h
  split at h
  · next hr => exact .inl ⟨by simpa using hr, by simpa using h.symm⟩
  · next hr =>
    split at h
    · cases h
    · next words hw =>
      rcases channelEvent_next h with ⟨hr', -⟩ | ⟨hr', hs, hc⟩
      · exact absurd hr' (by simpa using hr)
      · exact .inr ⟨hr', words, hw, hs, hc⟩

/-- A running machine is started and has raised nothing. -/
theorem running_iff (s : State) : running s = true ↔ s.started = true ∧ s.fault = none := by
  simp [running]

theorem commandGate_none {s : State} : commandGate s = none ↔ s.waiting = none ∧ s.fault = none := by
  unfold commandGate
  cases s.waiting <;> cases s.fault <;> simp

theorem onInstance_next {s t : State} {cmd : BusConfig → Result} (h : onInstance s cmd = .next t) :
    ∃ c, s.cfg = some c ∧ s.waiting = none ∧ s.fault = none ∧ cmd c = .next t := by
  unfold onInstance at h
  split at h
  · cases h
  · next hg =>
    split at h
    · cases h
    · next c hc => exact ⟨c, hc, (commandGate_none.1 hg).1, (commandGate_none.1 hg).2, h⟩

/-! ## Ledger -/

theorem takeCompletedRead_cases (k : TxnId) (s : State) :
    (s.rd_completed[k] = [] ∧ takeCompletedRead k s = none) ∨
      ∃ b bs, s.rd_completed[k] = b :: bs ∧
        takeCompletedRead k s = some (b, { s with rd_completed := popSlot s.rd_completed k }) := by
  unfold takeCompletedRead
  cases h : s.rd_completed[k] <;> simp

theorem takeCompletedWrite_cases (k : TxnId) (s : State) :
    (s.wr_completed[k] = [] ∧ takeCompletedWrite k s = none) ∨
      ∃ n ns, s.wr_completed[k] = n :: ns ∧
        takeCompletedWrite k s = some (n, { s with wr_completed := popSlot s.wr_completed k }) := by
  unfold takeCompletedWrite
  cases h : s.wr_completed[k] <;> simp

/-- What a poll does: nothing, or the return of one wrapper. -/
theorem pollWaiting_cases (s : State) :
    pollWaiting s = s ∨
      (∃ k b bs, s.waiting = some (.read k) ∧ s.rd_completed[k] = b :: bs ∧ pollWaiting s =
        { s with rd_completed := popSlot s.rd_completed k, reply := some (.okBurst b), waiting := none }) ∨
      ∃ k n ns, s.waiting = some (.write k) ∧ s.wr_completed[k] = n :: ns ∧ pollWaiting s =
        { s with wr_completed := popSlot s.wr_completed k, reply := some .ok, waiting := none } := by
  unfold pollWaiting
  cases hw : s.waiting with
  | none => exact .inl rfl
  | some w =>
    cases w with
    | read k =>
      rcases takeCompletedRead_cases k s with ⟨_, h⟩ | ⟨b, bs, hb, h⟩ <;> simp only [h]
      · exact .inl trivial
      · exact .inr (.inl ⟨k, b, bs, rfl, hb, rfl⟩)
    | write k =>
      rcases takeCompletedWrite_cases k s with ⟨_, h⟩ | ⟨n, ns, hn, h⟩ <;> simp only [h]
      · exact .inl trivial
      · exact .inr (.inr ⟨k, n, ns, rfl, hn, rfl⟩)

/-- A wrapper that enters its loop waits, unless the loop polls first and finds an item. -/
theorem startWaiting_tickFirst {w : Waiting} {s : State} (h : s.params.poll_first = false) :
    startWaiting w s = { s with waiting := some w, reply := none } := by
  simp [startWaiting, h]

/-! ## Channel machines -/

theorem arAcceptFront_ok {s t : State} (h : arAcceptFront s = .ok t) :
    ∃ r q, s.ar_queue = r :: q ∧ t = pushPending .read r.id (beatCount r.burst_len_minus1) { s with ar_queue := q } := by
  unfold arAcceptFront at h
  split at h
  · cases h
  · next r q hq => exact ⟨r, q, hq, by simpa using h.symm⟩

theorem arStep_ok {inp : Inputs} {s t : State} (h : arStep inp s = .ok t) :
    (arAccepted s inp = true ∧ ∃ u, arAcceptFront s = .ok u ∧ t = arDrive u) ∨
      (arAccepted s inp = false ∧ t = arDrive s) := by
  unfold arStep at h
  split at h
  · next ha =>
    obtain ⟨u, hu, ht⟩ := (bind_ok_iff _ _ _).1 h
    exact .inl ⟨ha, u, hu, by simpa using ht.symm⟩
  · next ha => exact .inr ⟨by simpa using ha, by simpa using h.symm⟩

theorem arStep_error {inp : Inputs} {s : State} {e : Halt} (h : arStep inp s = .error e) :
    e = .corrupt .arQueueEmpty ∧ s.ar_queue = [] ∧ s.arvalid_q = true := by
  unfold arStep arAcceptFront at h
  split at h
  · next ha =>
    split at h
    · next hq => simp_all [Except.bind, arAccepted]
    · simp [Except.bind] at h
  · cases h

theorem awAcceptFront_ok {s t : State} (h : awAcceptFront s = .ok t) :
    ∃ r q, s.aw_queue = r :: q ∧ t = pushPending .write r.id (beatCount r.burst_len_minus1)
      { s with aw_queue := q, w_queue := s.w_queue ++ [{ beats := r.beats, byte_count := r.beats.length * beatBytes s }] } := by
  unfold awAcceptFront at h
  split at h
  · cases h
  · next r q hq => exact ⟨r, q, hq, by simpa using h.symm⟩

theorem awStep_ok {inp : Inputs} {s t : State} (h : awStep inp s = .ok t) :
    (awAccepted s inp = true ∧ ∃ u, awAcceptFront s = .ok u ∧ t = awDrive u) ∨
      (awAccepted s inp = false ∧ t = awDrive s) := by
  unfold awStep at h
  split at h
  · next ha =>
    obtain ⟨u, hu, ht⟩ := (bind_ok_iff _ _ _).1 h
    exact .inl ⟨ha, u, hu, by simpa using ht.symm⟩
  · next ha => exact .inr ⟨by simpa using ha, by simpa using h.symm⟩

theorem awStep_error {inp : Inputs} {s : State} {e : Halt} (h : awStep inp s = .error e) :
    e = .corrupt .awQueueEmpty ∧ s.aw_queue = [] ∧ s.awvalid_q = true := by
  unfold awStep awAcceptFront at h
  split at h
  · next ha =>
    split at h
    · next hq => simp_all [Except.bind, awAccepted]
    · simp [Except.bind] at h
  · cases h

theorem wDrive_ok {s t : State} (h : wDrive s = .ok t) :
    (s.w_queue = [] ∧ t = { s with wvalid_q := false, wdata_q := 0, wlast_q := false }) ∨
      ∃ b q v words, s.w_queue = b :: q ∧ b.beats[s.w_idx]? = some v ∧ pack v (DW s) = some words ∧
        t = { s with
          wvalid_q := true, wdata_q := unpack words (DW s), wlast_q := decide (s.w_idx = b.beats.length - 1) } := by
  unfold wDrive at h
  split at h
  · next hq => exact .inl ⟨hq, by simpa using h.symm⟩
  · next b q hq =>
    split at h
    · cases h
    · next v hv =>
      split at h
      · cases h
      · next words hw => exact .inr ⟨b, q, v, words, hq, hv, hw, by simpa using h.symm⟩

/-- The drive completes on every beat that has words. -/
theorem wDrive_beat {s : State} {b : WBurst} {q : List WBurst} {v : Nat} {words : List Nat} (hq : s.w_queue = b :: q)
    (hv : b.beats[s.w_idx]? = some v) (hw : pack v (DW s) = some words) :
    wDrive s = .ok { s with
      wvalid_q := true, wdata_q := unpack words (DW s), wlast_q := decide (s.w_idx = b.beats.length - 1) } := by
  simp [wDrive, hq, hv, hw]

theorem wAdvance_ok {s t : State} (h : wAdvance s = .ok t) :
    ∃ b q, s.w_queue = b :: q ∧
      ((s.w_idx + 1 = b.beats.length ∧ t = { s with w_queue := q, w_idx := 0 }) ∨
        (s.w_idx + 1 ≠ b.beats.length ∧ t = { s with w_idx := s.w_idx + 1 })) := by
  unfold wAdvance at h
  split at h
  · cases h
  · next b q hq =>
    split at h
    · next hl => exact ⟨b, q, hq, .inl ⟨hl, by simpa using h.symm⟩⟩
    · next hl => exact ⟨b, q, hq, .inr ⟨hl, by simpa using h.symm⟩⟩

theorem wStep_ok {inp : Inputs} {s t : State} (h : wStep inp s = .ok t) :
    (wAccepted s inp = true ∧ ∃ u, wAdvance s = .ok u ∧ wDrive u = .ok t) ∨
      (wAccepted s inp = false ∧ wDrive s = .ok t) := by
  unfold wStep at h
  split at h
  · next ha => exact .inl ⟨ha, (bind_ok_iff _ _ _).1 h⟩
  · next ha => exact .inr ⟨by simpa using ha, h⟩

/-- W raises no violation. -/
theorem wStep_error {inp : Inputs} {s : State} {e : Halt} (h : wStep inp s = .error e) : ∃ f, e = .corrupt f := by
  have drive : ∀ u : State, wDrive u = .error e → ∃ f, e = .corrupt f := by
    intro u hu
    unfold wDrive at hu
    split at hu
    · cases hu
    · split at hu
      · exact ⟨_, by simpa using hu.symm⟩
      · split at hu
        · exact ⟨_, by simpa using hu.symm⟩
        · cases hu
  unfold wStep at h
  split at h
  · rcases (bind_error_iff _ _ _).1 h with h | ⟨u, -, h⟩
    · unfold wAdvance at h
      split at h
      · exact ⟨_, by simpa using h.symm⟩
      · split at h <;> cases h
    · exact drive u h
  · exact drive s h

theorem rCollect_ok {rid : TxnId} {words : List Nat} {s t : State} (h : rCollect rid words s = .ok t) :
    (s.r_burst_data = [] ∧ s.rd_pending[rid] ≠ [] ∧
      t = { s with r_burst_id := rid, r_burst_data := [unpack words (DW s)] }) ∨
    (s.r_burst_data ≠ [] ∧ rid = s.r_burst_id ∧
      t = { s with r_burst_data := s.r_burst_data ++ [unpack words (DW s)] }) := by
  unfold rCollect at h
  simp only at h
  split at h
  · next hd =>
    split at h
    · next hp => exact .inl ⟨hd, by simpa [hasPending, pendingOf] using hp, by simpa using h.symm⟩
    · cases h
  · next hd =>
    split at h
    · next hi => exact .inr ⟨hd, hi, by simpa using h.symm⟩
    · cases h

theorem rCollect_error {rid : TxnId} {words : List Nat} {s : State} {e : Halt} (h : rCollect rid words s = .error e) :
    (s.r_burst_data = [] ∧ s.rd_pending[rid] = [] ∧
      e = .violation { cause := .RD_NO_OUTSTANDING, id := rid, expected := 0, got := 0 }) ∨
    (s.r_burst_data ≠ [] ∧ rid ≠ s.r_burst_id ∧
      e = .violation { cause := .RD_ID_CHANGED, id := rid, expected := s.r_burst_id.val, got := rid.val }) := by
  unfold rCollect at h
  simp only at h
  split at h
  · next hd =>
    split at h
    · cases h
    · next hp => exact .inl ⟨hd, by simpa [hasPending, pendingOf] using hp, by simpa using h.symm⟩
  · next hd =>
    split at h
    · cases h
    · next hi => exact .inr ⟨hd, hi, by simpa using h.symm⟩

theorem rPublish_ok {s t : State} (h : rPublish s = .ok t) :
    ∃ ns, s.rd_pending[s.r_burst_id] = s.r_burst_data.length :: ns ∧
      t = { s with
        rd_completed := pushSlot s.rd_completed s.r_burst_id s.r_burst_data
        rd_pending := popSlot s.rd_pending s.r_burst_id
        r_burst_data := [] } := by
  unfold rPublish frontPending pendingOf at h
  simp only at h
  split at h
  · cases h
  · next n hn =>
    obtain ⟨ns, hns⟩ : ∃ ns, s.rd_pending[s.r_burst_id] = n :: ns := by
      cases hp : s.rd_pending[s.r_burst_id] with
      | nil => rw [hp] at hn; cases hn
      | cons a as => rw [hp] at hn; exact ⟨as, by simpa using hn⟩
    split at h
    · next hl => exact ⟨ns, by rw [hns, hl], by simpa [pushCompletedRead, popPending] using h.symm⟩
    · cases h

theorem rPublish_error {s : State} {e : Halt} (h : rPublish s = .error e) :
    (s.rd_pending[s.r_burst_id] = [] ∧ e = .corrupt .rdPendingEmpty) ∨
    ∃ n ns, s.rd_pending[s.r_burst_id] = n :: ns ∧ n ≠ s.r_burst_data.length ∧
      e = .violation { cause := .RD_LENGTH_MISMATCH, id := s.r_burst_id, expected := n, got := s.r_burst_data.length } := by
  unfold rPublish frontPending pendingOf at h
  simp only at h
  split at h
  · next hn => exact .inl ⟨by simpa using hn, by simpa using h.symm⟩
  · next n hn =>
    split at h
    · cases h
    · next hl =>
      cases hp : s.rd_pending[s.r_burst_id] with
      | nil => rw [hp] at hn; cases hn
      | cons a as =>
        rw [hp] at hn
        obtain rfl : a = n := by simpa using hn
        exact .inr ⟨a, as, rfl, hl, by simpa using h.symm⟩

theorem rStep_ok {inp : Inputs} {words : List Nat} {s t : State} (h : rStep inp words s = .ok t) :
    (rAccepted s inp = false ∧ t = rDriveReady s) ∨
    (rAccepted s inp = true ∧ ∃ u, rCollect inp.rid words s = .ok u ∧
      ((inp.rlast = false ∧ t = rDriveReady u) ∨
        (inp.rlast = true ∧ ∃ w, rPublish u = .ok w ∧ t = rDriveReady w))) := by
  unfold rStep at h
  split at h
  · next ha =>
    obtain ⟨u, hu, h⟩ := (bind_ok_iff _ _ _).1 h
    refine .inr ⟨ha, u, hu, ?_⟩
    split at h
    · next hl =>
      obtain ⟨w, hw, h⟩ := (bind_ok_iff _ _ _).1 h
      exact .inr ⟨hl, w, hw, by simpa using h.symm⟩
    · next hl => exact .inl ⟨by simpa using hl, by simpa using h.symm⟩
  · next ha => exact .inl ⟨by simpa using ha, by simpa using h.symm⟩

theorem rStep_error {inp : Inputs} {words : List Nat} {s : State} {e : Halt} (h : rStep inp words s = .error e) :
    rAccepted s inp = true ∧ (rCollect inp.rid words s = .error e ∨
      ∃ u, rCollect inp.rid words s = .ok u ∧ inp.rlast = true ∧ rPublish u = .error e) := by
  unfold rStep at h
  split at h
  · next ha =>
    refine ⟨ha, ?_⟩
    rcases (bind_error_iff _ _ _).1 h with h | ⟨u, hu, h⟩
    · exact .inl h
    · split at h
      · next hl =>
        rcases (bind_error_iff _ _ _).1 h with h | ⟨w, -, h⟩
        · exact .inr ⟨u, hu, hl, h⟩
        · cases h
      · cases h
  · cases h

theorem bRespond_ok {bid : TxnId} {bresp : BitVec 2} {s t : State} (h : bRespond bid bresp s = .ok t) :
    s.wr_pending[bid] ≠ [] ∧ (s.params.enforce_okay = true → bresp = 0) ∧
      t = { s with
        wr_pending := popSlot s.wr_pending bid
        wr_completed := pushSlot s.wr_completed bid bresp.toNat } := by
  unfold bRespond at h
  split at h
  · cases h
  · next hp =>
    split at h
    · cases h
    · next he =>
      refine ⟨by simpa [hasPending, pendingOf] using hp, fun hen => ?_, by simpa [pushCompletedWrite, popPending] using h.symm⟩
      simpa [hen] using he

theorem bRespond_error {bid : TxnId} {bresp : BitVec 2} {s : State} {e : Halt} (h : bRespond bid bresp s = .error e) :
    (s.wr_pending[bid] = [] ∧ e = .violation { cause := .WR_NO_OUTSTANDING, id := bid, expected := 0, got := 0 }) ∨
    (s.wr_pending[bid] ≠ [] ∧ s.params.enforce_okay = true ∧ bresp ≠ 0 ∧
      e = .violation { cause := .WR_ERROR_RESPONSE, id := bid, expected := 0, got := bresp.toNat }) := by
  unfold bRespond at h
  split at h
  · next hp => exact .inl ⟨by simpa [hasPending, pendingOf] using hp, by simpa using h.symm⟩
  · next hp =>
    split at h
    · next he =>
      simp only [Bool.and_eq_true, bne_iff_ne] at he
      exact .inr ⟨by simpa [hasPending, pendingOf] using hp, he.1, he.2, by simpa using h.symm⟩
    · cases h

theorem bStep_ok {inp : Inputs} {s t : State} (h : bStep inp s = .ok t) :
    (bAccepted s inp = false ∧ t = bDriveReady s) ∨
      (bAccepted s inp = true ∧ ∃ u, bRespond inp.bid inp.bresp s = .ok u ∧ t = bDriveReady u) := by
  unfold bStep at h
  split at h
  · next ha =>
    obtain ⟨u, hu, ht⟩ := (bind_ok_iff _ _ _).1 h
    exact .inr ⟨ha, u, hu, by simpa using ht.symm⟩
  · next ha => exact .inl ⟨by simpa using ha, by simpa using h.symm⟩

theorem bStep_error {inp : Inputs} {s : State} {e : Halt} (h : bStep inp s = .error e) :
    bAccepted s inp = true ∧ bRespond inp.bid inp.bresp s = .error e := by
  unfold bStep at h
  split at h
  · next ha =>
    refine ⟨ha, ?_⟩
    rcases (bind_error_iff _ _ _).1 h with h | ⟨u, -, h⟩
    · exact h
    · cases h
  · cases h

/-! ## Requests -/

theorem transactionDomain_ok {s : State} {id : Nat} {k : TxnId} (h : transactionDomain s id = .ok k) :
    s.started = true ∧ id = k.val := by
  unfold transactionDomain at h
  split at h
  · cases h
  · next hs =>
    split at h
    · next hi =>
      have hk : (⟨id, hi⟩ : TxnId) = k := by simpa using h
      exact ⟨by simpa using hs, by rw [← hk]⟩
    · cases h

theorem spanDomain_ok {s : State} {c : BusConfig} {a l n : Nat} {x : Unit} (h : spanDomain s c a l n = .ok x) :
    a + l ≤ 2 ^ c.addr_width_bits ∧ n < 2 ^ s.params.len_w := by
  unfold spanDomain at h
  split at h
  · cases h
  · split at h
    · cases h
    · omega

theorem checkRead_request {s : State} {c : BusConfig} {addr len id : Nat} {r : PendingRequest}
    (h : checkRead s c addr len id = .request r) :
    requestValid c addr len = true ∧ s.started = true ∧ 0 < len ∧ addr + len ≤ 2 ^ c.addr_width_bits ∧
      readLen c len < 2 ^ s.params.len_w ∧ id = r.id.val ∧ r.address = addr ∧ r.burst_len_minus1 = readLen c len := by
  unfold checkRead at h
  split at h
  · cases h
  · next hv =>
    split at h
    · cases h
    · next k hk =>
      split at h
      · cases h
      · next hz =>
        split at h
        · cases h
        · next x hx =>
          obtain rfl := Checked.request.inj h
          exact ⟨by simpa using hv, (transactionDomain_ok hk).1, by omega, (spanDomain_ok hx).1, (spanDomain_ok hx).2,
            (transactionDomain_ok hk).2, rfl, rfl⟩

theorem checkWrite_request {s : State} {c : BusConfig} {addr id : Nat} {data : List Nat} {r : WriteRequest}
    (h : checkWrite s c addr data id = .request r) :
    requestValid c addr (payloadLength c data) = true ∧ s.started = true ∧ data ≠ [] ∧
      (∀ v ∈ data, v < 2 ^ c.data_width_bits) ∧ addr + payloadLength c data ≤ 2 ^ c.addr_width_bits ∧
      data.length - 1 < 2 ^ s.params.len_w ∧ id = r.id.val ∧ r.address = addr ∧
      r.burst_len_minus1 = data.length - 1 ∧ r.beats = data := by
  unfold checkWrite at h
  split at h
  · cases h
  · next hv =>
    split at h
    · cases h
    · next k hk =>
      split at h
      · cases h
      · next hz =>
        split at h
        · cases h
        · next hw =>
          split at h
          · cases h
          · next x hx =>
            obtain rfl := Checked.request.inj h
            exact ⟨by simpa using hv, (transactionDomain_ok hk).1, hz, by simpa using hw, (spanDomain_ok hx).1,
              (spanDomain_ok hx).2, (transactionDomain_ok hk).2, rfl, rfl, rfl⟩

end Sys2Proof.Machine
end

