-- ==== Sys2Proof/Laws/Decode.lean ====
section
/-!
SUPPORT. The fields of a word, in both directions: reading what a field was written as gives its value, and a field
that can be read is what its value is written as.
-/

namespace Sys2Proof

open Sys2Proof.Machine (bind_ok_iff)

/-- The low `m` bytes of a number do not see what lies above `n ≥ m` bytes. -/
theorem natToBytes_mod (n m v : Nat) (h : m ≤ n) : natToBytes m (v % 256 ^ n) = natToBytes m v := by
  induction m with
  | zero => rfl
  | succ m ihm =>
    simp only [natToBytes]
    rw [ihm (by omega)]
    congr 1
    apply BitVec.eq_of_toNat_eq
    simp only [BitVec.toNat_ofNat]
    rw [show n = m + (n - m) by omega, pow_add, Nat.mod_mul_right_div_self, Nat.mod_mod_of_dvd]
    exact dvd_trans (by norm_num) (pow_dvd_pow 256 (show 1 ≤ n - m by omega))

theorem readNat_natToBytes (n : Nat) : ∀ (acc v : Nat) (rest : List Byte), v < 256 ^ n →
    readNat n acc (natToBytes n v ++ rest) = some (acc * 256 ^ n + v, rest) := by
  induction n with
  | zero => intro acc v rest h; simp at h; simp [readNat, natToBytes, h]
  | succ n ih =>
    intro acc v rest h
    have hd : v / 256 ^ n < 256 := by
      rw [Nat.div_lt_iff_lt_mul (by positivity)]; rw [pow_succ] at h; linarith
    simp only [natToBytes, List.cons_append, readNat]
    rw [← natToBytes_mod n n v le_rfl, ih _ _ _ (Nat.mod_lt _ (by positivity))]
    congr 2
    simp only [BitVec.toNat_ofNat]
    rw [Nat.mod_eq_of_lt (show v / 256 ^ n < 2 ^ 8 from hd)]
    have := Nat.div_add_mod v (256 ^ n)
    rw [pow_succ]; nlinarith

theorem readNat_some (n : Nat) : ∀ (acc v : Nat) (bs rest : List Byte), readNat n acc bs = some (v, rest) →
    ∃ w, v = acc * 256 ^ n + w ∧ w < 256 ^ n ∧ bs = natToBytes n w ++ rest := by
  induction n with
  | zero => intro acc v bs rest h; simp [readNat] at h; exact ⟨0, by simp [h.1], by simp, by simp [natToBytes, h.2]⟩
  | succ n ih =>
    intro acc v bs rest h
    cases bs with
    | nil => simp [readNat] at h
    | cons b bs =>
      simp only [readNat] at h
      obtain ⟨w, h1, h2, h3⟩ := ih _ _ _ _ h
      have hb := b.isLt
      refine ⟨b.toNat * 256 ^ n + w, ?_, ?_, ?_⟩
      · rw [h1, pow_succ]; ring
      · rw [pow_succ]
        have : b.toNat + 1 ≤ 256 := by omega
        calc b.toNat * 256 ^ n + w < (b.toNat + 1) * 256 ^ n := by rw [add_mul]; omega
          _ ≤ 256 * 256 ^ n := Nat.mul_le_mul_right _ this
          _ = _ := by ring
      · simp only [natToBytes, List.cons_append, h3]
        congr 1
        · apply BitVec.eq_of_toNat_eq
          simp only [BitVec.toNat_ofNat]
          rw [Nat.add_comm, Nat.add_mul_div_right _ _ (by positivity), Nat.div_eq_of_lt h2]
          simp; omega
        · congr 1
          rw [← natToBytes_mod n n (b.toNat * 256 ^ n + w) le_rfl, Nat.mul_add_mod', Nat.mod_eq_of_lt h2]

theorem field_natToBytes (n v : Nat) (rest : List Byte) (h : v < 256 ^ n) :
    field n (natToBytes n v ++ rest) = .ok (v, rest) := by
  simp [field, readNat_natToBytes n 0 v rest h]

theorem field_ok {n v : Nat} {bs rest : List Byte} (h : field n bs = .ok (v, rest)) :
    v < 256 ^ n ∧ bs = natToBytes n v ++ rest := by
  unfold field at h
  split at h
  · cases h
  · next p hp =>
    obtain rfl : p = (v, rest) := by simpa using h
    obtain ⟨w, h1, h2, h3⟩ := readNat_some _ _ _ _ _ hp
    obtain rfl : v = w := by simpa using h1
    exact ⟨h2, h3⟩

theorem beatFields_bytes (bw : Nat) (data : List Nat) (rest : List Byte) (h : ∀ v ∈ data, v < 256 ^ bw) :
    beatFields data.length bw (data.flatMap (natToBytes bw) ++ rest) = .ok (data, rest) := by
  induction data with
  | nil => rfl
  | cons v vs ih =>
    simp only [List.length_cons, beatFields, List.flatMap_cons, List.append_assoc]
    rw [field_natToBytes _ _ _ (h v (by simp))]
    simp only [Except.bind]
    rw [ih (fun x hx => h x (by simp [hx]))]

theorem beatFields_ok (n : Nat) : ∀ {bw : Nat} {bs rest : List Byte} {vs : List Nat},
    beatFields n bw bs = .ok (vs, rest) →
    vs.length = n ∧ (∀ v ∈ vs, v < 256 ^ bw) ∧ bs = vs.flatMap (natToBytes bw) ++ rest := by
  induction n with
  | zero => intro bw bs rest vs h; simp [beatFields] at h; obtain ⟨rfl, rfl⟩ := h; simp
  | succ n ih =>
    intro bw bs rest vs h
    simp only [beatFields] at h
    obtain ⟨⟨v, bs1⟩, h1, h⟩ := (bind_ok_iff _ _ _).1 h
    obtain ⟨⟨ws, bs2⟩, h2, h⟩ := (bind_ok_iff _ _ _).1 h
    obtain ⟨a1, a2⟩ := field_ok h1
    obtain ⟨b1, b2, b3⟩ := ih h2
    simp only at b3
    simp at h; obtain ⟨rfl, rfl⟩ := h
    exact ⟨by simp [b1], by simpa [a1] using b2, by simp [a2, b3]⟩

theorem payload_bytes (bw : Nat) (data : List Nat) (rest : List Byte) (h : payloadFits bw data = true) :
    payloadField bw (payloadBytes bw data ++ rest) = .ok (data, rest) := by
  simp only [payloadFits, Bool.and_eq_true, decide_eq_true_eq, List.all_eq_true, Bool.or_eq_true, List.isEmpty_iff] at h
  obtain ⟨⟨h1, h2⟩, h3⟩ := h
  simp only [payloadField, payloadBytes, List.append_assoc]
  rw [field_natToBytes _ _ _ (by simpa using h1)]
  simp only [Except.bind]
  rw [if_neg, beatFields_bytes bw data rest h3]
  rcases h2 with h2 | h2
  · simp; omega
  · simp [h2]

theorem payload_ok {bw : Nat} {bs rest : List Byte} {data : List Nat} (h : payloadField bw bs = .ok (data, rest)) :
    payloadFits bw data = true ∧ bs = payloadBytes bw data ++ rest := by
  unfold payloadField at h
  obtain ⟨⟨n, bs1⟩, h1, h⟩ := (bind_ok_iff _ _ _).1 h
  simp only at h
  split at h
  · cases h
  · next hc =>
    obtain ⟨a1, a2⟩ := field_ok h1
    obtain ⟨rfl, b2, b3⟩ := beatFields_ok _ h
    refine ⟨?_, by simp [payloadBytes, a2, b3]⟩
    simp only [payloadFits, Bool.and_eq_true, decide_eq_true_eq, List.all_eq_true, Bool.or_eq_true, List.isEmpty_iff]
    refine ⟨⟨by simpa using a1, ?_⟩, b2⟩
    by_cases hb : bw = 0
    · exact .inr (by simpa [hb] using hc)
    · exact .inl (by omega)

theorem headerByte_fields (op id : Nat) (h1 : op < 16) (h2 : id < 16) :
    (headerByte op id).toNat / 16 = op ∧ (headerByte op id).toNat % 16 = id := by
  simp only [headerByte, BitVec.toNat_ofNat]; omega

theorem headerByte_of_fields (h : Byte) (op : Nat) (ho : h.toNat / 16 = op) : headerByte op (h.toNat % 16) = h := by
  apply BitVec.eq_of_toNat_eq
  have := h.isLt
  simp [headerByte]; omega

end Sys2Proof
end

