-- ==== Sys2Proof/Laws/PerInstr.lean ====
section
/-!
SUPPORT. Statements made of every instruction, one lemma per constructor. `TableRow`: the first byte of an
instruction's word lies under its row of spec/opcode_table.json.
-/

namespace Sys2Proof.Laws.TableRow

/-- The first byte of the word, masked as the row says, is what the row matches. -/
def Statement (i : Instr) : Prop :=
  ∀ bw : Nat, i.wellFormed bw = true →
    ∃ b rest, encode bw i = b :: rest ∧ b.toNat &&& (tableRow i).2 = (tableRow i).1

/-- A header byte masked with `0xF0` is its op. -/
theorem header_masked {op id : Nat} (ho : op < 16) (hi : id < 16) : (headerByte op id).toNat &&& 0xF0 = 16 * op := by
  have h : ∀ a < 16, ∀ b < 16, (headerByte a b).toNat &&& 0xF0 = 16 * a := by decide
  exact h op ho id hi

theorem sendRead (addr length_bytes id : Nat) : Statement (.sendRead addr length_bytes id) := fun bw h => by
  simp only [Instr.wellFormed, Bool.and_eq_true, decide_eq_true_eq] at h
  exact ⟨_, _, rfl, header_masked (by decide) h.2⟩
theorem recvRead (id : Nat) : Statement (.recvRead id) := fun bw h =>
  ⟨_, _, rfl, header_masked (by decide) (by simpa [Instr.wellFormed] using h)⟩
theorem sendWrite (addr : Nat) (data : List Nat) (id : Nat) : Statement (.sendWrite addr data id) := fun bw h => by
  simp only [Instr.wellFormed, Bool.and_eq_true, decide_eq_true_eq] at h
  exact ⟨_, _, rfl, header_masked (by decide) h.2⟩
theorem recvWrite (id : Nat) : Statement (.recvWrite id) := fun bw h =>
  ⟨_, _, rfl, header_masked (by decide) (by simpa [Instr.wellFormed] using h)⟩
theorem read (addr length_bytes id : Nat) : Statement (.read addr length_bytes id) := fun bw h => by
  simp only [Instr.wellFormed, Bool.and_eq_true, decide_eq_true_eq] at h
  exact ⟨_, _, rfl, header_masked (by decide) h.2⟩
theorem write (addr : Nat) (data : List Nat) (id : Nat) : Statement (.write addr data id) := fun bw h => by
  simp only [Instr.wellFormed, Bool.and_eq_true, decide_eq_true_eq] at h
  exact ⟨_, _, rfl, header_masked (by decide) h.2⟩
theorem init : Statement .init := fun _ _ => ⟨_, _, rfl, by decide⟩
theorem construct (data_width_bits addr_width_bits : Nat) : Statement (.construct data_width_bits addr_width_bits) :=
  fun _ _ => ⟨_, _, rfl, (by decide : (headerByte 8 0).toNat &&& 0xFF = 0x80)⟩
theorem arIdle (arready : Bool) : Statement (.arIdle arready) := fun _ _ => ⟨_, _, rfl, by cases arready <;> decide⟩
theorem arStall : Statement .arStall := fun _ _ => ⟨_, _, rfl, by decide⟩
theorem arAccept : Statement .arAccept := fun _ _ => ⟨_, _, rfl, by decide⟩
theorem rNobeatNotReady (rvalid rlast : Bool) : Statement (.rNobeatNotReady rvalid rlast) := fun _ _ =>
  ⟨_, _, rfl, by cases rvalid <;> cases rlast <;> decide⟩
theorem rNobeatNotValid (rlast : Bool) : Statement (.rNobeatNotValid rlast) := fun _ _ =>
  ⟨_, _, rfl, by cases rlast <;> decide⟩
theorem rBeat (rid : TxnId) (rdata : Nat) : Statement (.rBeat rid rdata) := fun _ _ =>
  ⟨_, _, rfl, (by decide : (6 : Byte).toNat &&& 0b111 = 0b110)⟩
theorem rLast (rid : TxnId) (rdata : Nat) : Statement (.rLast rid rdata) := fun _ _ =>
  ⟨_, _, rfl, (by decide : (7 : Byte).toNat &&& 0b111 = 0b111)⟩
theorem awIdle (awready : Bool) : Statement (.awIdle awready) := fun _ _ => ⟨_, _, rfl, by cases awready <;> decide⟩
theorem awStall : Statement .awStall := fun _ _ => ⟨_, _, rfl, by decide⟩
theorem awAccept : Statement .awAccept := fun _ _ => ⟨_, _, rfl, by decide⟩
theorem wIdle (wready : Bool) : Statement (.wIdle wready) := fun _ _ => ⟨_, _, rfl, by cases wready <;> decide⟩
theorem wStall : Statement .wStall := fun _ _ => ⟨_, _, rfl, by decide⟩
theorem wAccept : Statement .wAccept := fun _ _ => ⟨_, _, rfl, by decide⟩
theorem bNobeatNotReady (bvalid : Bool) : Statement (.bNobeatNotReady bvalid) := fun _ _ =>
  ⟨_, _, rfl, by cases bvalid <;> decide⟩
theorem bNobeatNotValid : Statement .bNobeatNotValid := fun _ _ => ⟨_, _, rfl, by decide⟩
theorem bResp (bid : TxnId) (bresp : BitVec 2) : Statement (.bResp bid bresp) := fun _ _ =>
  ⟨_, _, rfl, (by decide : (3 : Byte).toNat &&& 0b11 = 0b11)⟩
theorem reset : Statement .reset := fun _ _ => ⟨_, _, rfl, by decide⟩
theorem tick (inp : Inputs) : Statement (.tick inp) := fun _ _ =>
  ⟨_, _, rfl, (by decide : (1 : Byte).toNat &&& 0b1 = 0b1)⟩

end Sys2Proof.Laws.TableRow
end

