-- ==== Sys2Proof/Tests/Slice0.lean ====
section
/-!
SUPPORT. Tests, with their expected results from the spec: words written out from 30_encoding.md, the vectors of
95_test_vectors.md part 2 and the examples in the rules. Then, for every statement that has hypotheses, a concrete
state and operands that meet them.
-/

namespace Sys2Proof.Tests

open Sys2Proof Sys2Proof.Machine

/-! ## Helpers -/

/-- One field of the next state, if there is one. -/
def after {α : Type} (r : Result) (f : State → α) : Option α :=
  match r with
  | .next t => some (f t)
  | _ => none

/-- The refusal, if it is one. -/
def refusal (r : Result) : Option Refusal :=
  match r with
  | .refused x => some x
  | _ => none

/-- Sixteen slots, all empty but one. -/
def one {α : Type} (k : TxnId) (x : List α) : Slots (List α) := setSlot (Vector.replicate 16 []) k x

/-- A started instance with `DW = dw`, `ADDR_W = 16`, after its first tick: ready on R and B. -/
def run (dw : Nat) : State :=
  { State.reset with
    cfg := some { interface_name := "m0", data_width_bits := dw, addr_width_bits := 16 }
    started := true, rready_q := true, bready_q := true }

/-- Inputs of a tick in which the peer drives nothing. -/
def quiet : Inputs :=
  { arready := false, rvalid := false, rdata := 0, rid := 0, rlast := false, awready := false, wready := false,
    bvalid := false, bid := 0, bresp := 0 }

/-! ## Words (30_encoding.md R79 to R85, R89) -/

theorem test_decode_sendRead :
    decode .host 16 [0x13, 0, 0, 0, 0, 0, 0, 0x1F, 0xFC, 0, 0, 0, 4] = .ok (.sendRead 0x1FFC 4 3, []) := by decide
theorem test_decode_recvRead : decode .host 4 [0x2F] = .ok (.recvRead 15, []) := by decide
theorem test_decode_sendWrite :
    decode .host 2 [0x35, 0, 0, 0, 0, 0, 0, 0, 0x40, 0, 0, 0, 2, 0x12, 0x34, 0, 0x11] =
      .ok (.sendWrite 0x40 [0x1234, 0x11] 5, []) := by decide
theorem test_decode_recvWrite : decode .host 4 [0x45] = .ok (.recvWrite 5, []) := by decide
theorem test_decode_read :
    decode .host 16 [0x50, 0, 0, 0, 0, 0, 0, 0, 0, 0, 0, 0, 0x80] = .ok (.read 0 128 0, []) := by decide
theorem test_decode_write :
    decode .host 1 [0x61, 0, 0, 0, 0, 0, 0, 0, 7, 0, 0, 0, 1, 0xAB] = .ok (.write 7 [0xAB] 1, []) := by decide
theorem test_decode_init : decode .host 4 [0x70] = .ok (.init, []) := by decide
theorem test_decode_construct : decode .host 0 [0x80, 0, 0, 0, 0x80, 0, 0, 0, 0x10] = .ok (.construct 128 16, []) := by
  decide
theorem test_decode_ar :
    decode .ar 4 [0b00] = .ok (.arIdle false, []) ∧ decode .ar 4 [0b01] = .ok (.arIdle true, []) ∧
    decode .ar 4 [0b10] = .ok (.arStall, []) ∧ decode .ar 4 [0b11] = .ok (.arAccept, []) := by decide
theorem test_decode_r :
    decode .r 4 [0b010] = .ok (.rNobeatNotReady true false, []) ∧
    decode .r 4 [0b101] = .ok (.rNobeatNotValid true, []) ∧
    decode .r 4 [0b110, 0x03, 0, 0, 0, 0xAA] = .ok (.rBeat 3 0xAA, []) ∧
    decode .r 4 [0b111, 0x0F, 0xDE, 0xAD, 0xBE, 0xEF] = .ok (.rLast 15 0xDEADBEEF, []) := by decide
theorem test_decode_aw :
    decode .aw 4 [0b01] = .ok (.awIdle true, []) ∧ decode .aw 4 [0b10] = .ok (.awStall, []) ∧
    decode .aw 4 [0b11] = .ok (.awAccept, []) := by decide
theorem test_decode_w :
    decode .w 4 [0b00] = .ok (.wIdle false, []) ∧ decode .w 4 [0b10] = .ok (.wStall, []) ∧
    decode .w 4 [0b11] = .ok (.wAccept, []) := by decide
theorem test_decode_b :
    decode .b 4 [0b01] = .ok (.bNobeatNotReady true, []) ∧ decode .b 4 [0b10] = .ok (.bNobeatNotValid, []) ∧
    decode .b 4 [0b11, 0x25] = .ok (.bResp 5 2, []) := by decide
theorem test_decode_clock :
    decode .clock 4 [0] = .ok (.reset, []) ∧
    decode .clock 1 [1, 0b011000, 0x3C, 2, 0xAA] =
      .ok (.tick { quiet with rvalid := true, rlast := true, rid := 3, bid := 12, bresp := 2, rdata := 0xAA }, []) := by
  decide
theorem test_decode_leaves_the_rest : decode .host 4 [0x22, 0x45, 0x70] = .ok (.recvRead 2, [0x45, 0x70]) := by decide
theorem test_reserved_ops :
    decode .host 4 [0x05] = .error (.reservedOp 0) ∧ decode .host 4 [0x90] = .error (.reservedOp 9) ∧
    decode .host 4 [0xFF] = .error (.reservedOp 15) := by decide
theorem test_reserved_ids :
    decode .host 4 [0x71] = .error (.reservedId 7) ∧ decode .host 4 [0x8F] = .error (.reservedId 8) := by decide
theorem test_rejected_words :
    decode .ar 4 [4] = .error .badSelector ∧ decode .r 4 [8] = .error .badSelector ∧
    decode .clock 4 [2] = .error .badSelector ∧ decode .r 1 [6, 0x10, 0] = .error .badOperand ∧
    decode .b 1 [3, 0x40] = .error .badOperand ∧ decode .host 4 [0x10, 0] = .error .truncated ∧
    decode .host 0 [0x30, 0, 0, 0, 0, 0, 0, 0, 0, 0, 0, 0, 1] = .error .noBeatWidth := by decide
theorem test_table_words :
    decodeTableWord 8 0x10 = some (.sendRead 0 0 0) ∧ decodeTableWord 8 0x2A = some (.recvRead 10) ∧
    decodeTableWord 8 0x70 = some .init ∧ decodeTableWord 8 0x80 = some (.construct 0 0) ∧
    decodeTableWord 8 3 = some .arAccept ∧ decodeTableWord 8 6 = some (.rBeat 0 0) ∧
    decodeTableWord 8 0 = some .reset ∧ decodeTableWord 8 0xA0 = none := by decide

/-! ## Well-formedness: each check refuses an ill-formed term -/

theorem test_wf_addr : (Instr.sendRead (2 ^ 64) 4 0).wellFormed 4 = false := by decide
theorem test_wf_length : (Instr.read 0 (2 ^ 32) 0).wellFormed 4 = false := by decide
theorem test_wf_id : (Instr.recvRead 16).wellFormed 4 = false ∧ (Instr.recvWrite 16).wellFormed 4 = false := by decide
theorem test_wf_payload_value : (Instr.sendWrite 0 [256] 0).wellFormed 1 = false := by decide
theorem test_wf_payload_width : (Instr.write 0 [0] 0).wellFormed 0 = false := by decide
theorem test_wf_construct : (Instr.construct (2 ^ 32) 16).wellFormed 4 = false := by decide
theorem test_wf_rdata :
    (Instr.rBeat 0 (2 ^ 32)).wellFormed 4 = false ∧ (Instr.rLast 0 (2 ^ 32)).wellFormed 4 = false ∧
    (Instr.tick { quiet with rdata := 256 }).wellFormed 1 = false := by decide
theorem test_wf_holds : (Instr.write (2 ^ 64 - 1) [0, 255] 15).wellFormed 1 = true := by decide

/-! ## The word codec (95_test_vectors.md 2.1) -/

theorem test_pack :
    pack 0x0123456789ABCDEF 64 = some [0x0123456789ABCDEF] ∧
    pack 0xFF0123456789ABCDEF 72 = some [0x89ABCDEF, 0x01234567, 0xFF] ∧
    pack (2 ^ 72) 72 = some [0, 0, 0x100] ∧ pack (2 ^ 96) 72 = some [0, 0, 0] := by decide
/-- U2: outside its domain the narrow `pack` is refused. -/
theorem test_pack_refuses : pack 256 8 = none ∧ pack (2 ^ 64) 64 = none ∧ pack 255 8 = some [255] := by decide
theorem test_unpack :
    unpack [0x89ABCDEF, 0x01234567, 0xFF] 72 = 0xFF0123456789ABCDEF ∧ unpack [0, 0, 0x100] 72 = 2 ^ 72 ∧
    unpack [7] 8 = 7 ∧ (pack (2 ^ 255) 256).map (unpack · 256) = some (2 ^ 255) := by decide

/-! ## Address channels (2.3) -/

theorem test_arIdle_high_ready_accepts_nothing :
    after (exec (.arIdle true) { run 32 with ar_queue := [⟨0x40, 1, 1⟩] })
      (fun t => (t.arvalid_q, t.araddr_q, t.arlen_q, t.arid_q, t.ar_queue)) =
      some (true, 0x40, 1, 1, [⟨0x40, 1, 1⟩]) := by decide
theorem test_arStall :
    after (exec .arStall
        { run 32 with ar_queue := [⟨0x40, 1, 1⟩], arvalid_q := true, araddr_q := 0x40, arlen_q := 1, arid_q := 1 })
      (fun t => (t.arvalid_q, t.araddr_q, t.ar_queue)) = some (true, 0x40, [⟨0x40, 1, 1⟩]) := by decide
theorem test_arAccept_drives_the_next :
    after (exec .arAccept { run 32 with ar_queue := [⟨0, 7, 0⟩, ⟨0x80, 0, 5⟩], arvalid_q := true, arlen_q := 7 })
      (fun t => (t.ar_queue, t.rd_pending[(0 : TxnId)], t.arvalid_q, t.araddr_q, t.arlen_q, t.arid_q)) =
      some ([⟨0x80, 0, 5⟩], [8], true, 0x80, 0, 5) := by decide
theorem test_arAccept_pushes_at_the_back :
    after (exec .arAccept { run 32 with ar_queue := [⟨0, 0, 3⟩], arvalid_q := true, arid_q := 3, rd_pending := one 3 [4] })
      (fun t => (t.rd_pending[(3 : TxnId)], t.arvalid_q)) = some ([4, 1], false) := by decide
theorem test_awIdle :
    after (exec (.awIdle true) { run 64 with aw_queue := [⟨0x40, 0, 5, [1]⟩] })
      (fun t => (t.awvalid_q, t.awaddr_q, t.awid_q, t.aw_queue.length)) = some (true, 0x40, 5, 1) := by decide
theorem test_awStall :
    after (exec .awStall { run 64 with aw_queue := [⟨0x40, 0, 5, [1]⟩], awvalid_q := true, awaddr_q := 0x40, awid_q := 5 })
      (fun t => (t.awvalid_q, t.awaddr_q, t.aw_queue.length)) = some (true, 0x40, 1) := by decide
theorem test_awAccept_feeds_w :
    after (exec .awAccept { run 64 with aw_queue := [⟨0x40, 2, 5, [0x11, 0x22, 0x33]⟩], awvalid_q := true })
      (fun t => (t.aw_queue, t.wr_pending[(5 : TxnId)], t.w_queue, t.awvalid_q)) =
      some ([], [3], [⟨[0x11, 0x22, 0x33], 24⟩], false) := by decide

/-! ## Read data channel (2.4) -/

theorem test_rNobeatNotReady :
    after (exec (.rNobeatNotReady true true) { run 32 with rready_q := false }) (fun t => (t.rready_q, t.r_burst_data)) =
      some (true, []) := by decide
theorem test_rNobeatNotValid :
    after (exec (.rNobeatNotValid true) { run 32 with r_burst_data := [1, 2] }) (fun t => t.r_burst_data) =
      some [1, 2] := by decide
theorem test_rBeat_first :
    after (exec (.rBeat 3 0xAA) { run 32 with rd_pending := one 3 [2] }) (fun t => (t.r_burst_id, t.r_burst_data)) =
      some (3, [0xAA]) := by decide
theorem test_rBeat_id_changed :
    after (exec (.rBeat 1 0xA0)
        { run 32 with r_burst_data := [0xB0], r_burst_id := 2, rd_pending := setSlot (one 1 [2]) 2 [3] })
      (fun t => t.fault) = some (some ⟨.RD_ID_CHANGED, 1, 2, 1⟩) := by decide
theorem test_rLast_publishes :
    after (exec (.rLast 3 0xBB) { run 32 with r_burst_data := [0xAA], r_burst_id := 3, rd_pending := one 3 [2] })
      (fun t => (t.rd_completed[(3 : TxnId)], t.rd_pending[(3 : TxnId)], t.r_burst_data)) =
      some ([[0xAA, 0xBB]], [], []) := by decide
theorem test_rLast_id_check_before_length :
    after (exec (.rLast 1 0xA0) { run 32 with r_burst_data := [0xB0], r_burst_id := 2, rd_pending := one 2 [1] })
      (fun t => t.fault) = some (some ⟨.RD_ID_CHANGED, 1, 2, 1⟩) := by decide

/-! ## Write data and response (2.6) -/

/-- `w_queue` of the vectors of 2.6. -/
def sending (i : Nat) : State :=
  { run 64 with w_queue := [⟨[0x11, 0x22, 0x33], 24⟩], w_idx := i, wvalid_q := true }

theorem test_wIdle :
    after (exec (.wIdle true) { sending 0 with wvalid_q := false })
      (fun t => (t.wvalid_q, t.wdata_q, t.wlast_q, t.w_idx)) = some (true, 0x11, false, 0) := by decide
theorem test_wStall :
    after (exec .wStall (sending 1)) (fun t => (t.wdata_q, t.wlast_q, t.w_idx)) = some (0x22, false, 1) := by decide
theorem test_wAccept_to_the_last_beat :
    after (exec .wAccept (sending 1)) (fun t => (t.w_idx, t.wdata_q, t.wlast_q)) = some (2, 0x33, true) := by decide
theorem test_wAccept_next_burst_without_idle_cycle :
    after (exec .wAccept { run 64 with w_queue := [⟨[0x5], 8⟩, ⟨[0x6, 0x7], 16⟩], wvalid_q := true, wdata_q := 5, wlast_q := true })
      (fun t => (t.w_queue, t.w_idx, t.wvalid_q, t.wdata_q, t.wlast_q)) =
      some ([⟨[0x6, 0x7], 16⟩], 0, true, 0x6, false) := by decide
theorem test_bNobeatNotReady :
    after (exec (.bNobeatNotReady true) { run 64 with bready_q := false, wr_pending := one 5 [3] })
      (fun t => (t.bready_q, t.wr_pending[(5 : TxnId)])) = some (true, [3]) := by decide
theorem test_bNobeatNotValid :
    after (exec .bNobeatNotValid { run 64 with wr_pending := one 5 [3] }) (fun t => t.wr_pending[(5 : TxnId)]) =
      some [3] := by decide
theorem test_bResp :
    after (exec (.bResp 5 0) { run 64 with wr_pending := one 5 [3] })
      (fun t => (t.wr_pending[(5 : TxnId)], t.wr_completed[(5 : TxnId)])) = some ([], [0]) := by decide
theorem test_bResp_id_check_before_status :
    after (exec (.bResp 6 2) { run 64 with wr_pending := one 5 [3] }) (fun t => t.fault) =
      some (some ⟨.WR_NO_OUTSTANDING, 6, 0, 0⟩) := by decide

/-! ## Host commands (2.5) -/

theorem test_construct :
    after (exec (.construct 8 0) State.reset) (fun t => (t.reply, t.cfg.isSome, t.started)) =
      some (some .ok, true, false) := by decide
theorem test_construct_invalid :
    after (exec (.construct 0 16) State.reset) (fun t => (t.reply, t.cfg)) = some (some .invalidArgument, none) := by decide
theorem test_init :
    after (exec .init { run 32 with started := false }) (fun t => (t.started, t.reply)) = some (true, some .ok) := by decide
theorem test_init_twice : refusal (exec .init (run 32)) = some .alreadyStarted := by decide
theorem test_sendRead_ends_at_the_boundary :
    after (exec (.sendRead 0x1FFC 4 15) (run 32)) (fun t => (t.reply, t.ar_queue)) =
      some (some .ok, [⟨0x1FFC, 0, 15⟩]) := by decide
theorem test_sendRead_crosses_the_boundary :
    after (exec (.sendRead 0xFFC 8 0) (run 32)) (fun t => (t.reply, t.ar_queue)) = some (some .invalidArgument, []) := by
  decide
theorem test_recvRead_oldest :
    after (exec (.recvRead 0) { run 32 with rd_completed := one 0 [[1, 2], [3]] })
      (fun t => (t.reply, t.rd_completed[(0 : TxnId)])) = some (some (.okBurst [1, 2]), [[3]]) := by decide
theorem test_recvRead_other_id :
    after (exec (.recvRead 1) { run 32 with rd_completed := one 0 [[9]] })
      (fun t => (t.reply, t.rd_completed[(0 : TxnId)])) = some (some .notReady, [[9]]) := by decide
theorem test_sendWrite :
    after (exec (.sendWrite 0x40 [0x11, 0x22, 0x33] 5) (run 64)) (fun t => (t.reply, t.aw_queue)) =
      some (some .ok, [⟨0x40, 2, 5, [0x11, 0x22, 0x33]⟩]) := by decide
theorem test_sendWrite_beat_too_wide : refusal (exec (.sendWrite 0 [2 ^ 64] 0) (run 64)) = some .beatTooWide := by decide
theorem test_recvWrite :
    after (exec (.recvWrite 5) { run 64 with wr_completed := one 5 [0] }) (fun t => (t.reply, t.wr_completed[(5 : TxnId)])) =
      some (some .ok, []) := by decide
theorem test_recvWrite_not_ready :
    after (exec (.recvWrite 5) (run 64)) (fun t => t.reply) = some (some .notReady) := by decide
theorem test_read_waits :
    after (exec (.read 0 128 0) (run 128)) (fun t => (t.reply, t.waiting, t.ar_queue)) =
      some (none, some (.read 0), [⟨0, 7, 0⟩]) := by decide
theorem test_read_too_long : refusal (exec (.read 0x1000 1028 0) (run 32)) = some .tooManyBeats := by decide
theorem test_write_waits :
    after (exec (.write 0xFF8 [1] 5) (run 64)) (fun t => (t.waiting, t.aw_queue)) =
      some (some (.write 5), [⟨0xFF8, 0, 5, [1]⟩]) := by decide
theorem test_write_empty : refusal (exec (.write 0 [] 5) (run 64)) = some .emptyPayload := by decide

/-! ## Clock events -/

/-- F6 of 2.4: data in the very cycle in which its request is accepted. -/
theorem test_tick_r_before_ar :
    after (exec (.tick { quiet with arready := true, rvalid := true, rid := 7, rdata := 5, rlast := true })
        { run 32 with ar_queue := [⟨0, 0, 7⟩], arvalid_q := true, arid_q := 7 })
      (fun t => t.fault) = some (some ⟨.RD_NO_OUTSTANDING, 7, 0, 0⟩) := by decide
/-- 45_host_commands.md R176 c: the wrapper returns the older burst after one tick. -/
theorem test_tick_ends_a_read :
    after (exec (.tick quiet) { run 32 with waiting := some (.read 2), rd_completed := one 2 [[9]] })
      (fun t => (t.reply, t.waiting, t.rd_completed[(2 : TxnId)])) = some (some (.okBurst [9]), none, []) := by decide
theorem test_reset :
    after (exec .reset { run 32 with fault := some ⟨.RD_ID_CHANGED, 1, 2, 1⟩, r_burst_data := [1] })
      (fun t => (t.fault, t.started, t.r_burst_data, t.cfg.isSome, t.rready_q)) = some (none, false, [], true, false) := by
  decide

/-! ## Witnesses: the hypotheses of each statement, met by a concrete state and operands, clause by clause -/

theorem witness_DecodeOfEncodeIsTheInstruction :
    (Instr.write (2 ^ 64 - 1) [0, 255] 15).wellFormed 1 = true ∧
    (Instr.tick { quiet with rdata := 255, rid := 15, bid := 15, bresp := 3 }).wellFormed 1 = true ∧
    (Instr.sendRead 0 (2 ^ 32 - 1) 0).wellFormed 0 = true := by decide

theorem witness_DecodedWordIsTheWordOfItsInstruction :
    decode .b 1 [3, 0x3F, 9] = .ok (.bResp 15 3, [9]) := by decide

theorem witness_ReservedWordsRefusedAndNoPatternIs :
    ((0x0F : Byte).toNat / 16 = 0 ∧ 9 ≤ (0x90 : Byte).toNat / 16 ∧ 9 ≤ (0xFF : Byte).toNat / 16) ∧
    ((0x71 : Byte).toNat / 16 = 7 ∧ (0x71 : Byte).toNat % 16 ≠ 0) ∧
    ((0x8F : Byte).toNat / 16 = 8 ∧ (0x8F : Byte).toNat % 16 ≠ 0) ∧
    (7 : Byte).toNat < (if Port.r = .r then 8 else 4) ∧ (3 : Byte).toNat < (if Port.ar = .r then 8 else 4) := by decide

/-- An instance with two words presented by the host. -/
def presented : State := { run 32 with stimuli := [{ port := .host, bytes := [0x22, 0x45] }] }

theorem witness_StepPerformsThePresentedInstruction :
    presented.stimuli = [{ port := .host, bytes := [0x22, 0x45] }] ∧
    decode .host (beatBytes presented) [0x22, 0x45] = .ok (.recvRead 2, [0x45]) := by decide

theorem witness_PackSplitsIntoWords : 64 ≤ 64 ∧ 2 ^ 64 - 1 < 2 ^ 64 ∧ 64 < 65 ∧ 2 < (65 + 31) / 32 := by decide

theorem witness_UnpackInvertsPack :
    2 ^ 72 - 1 < 2 ^ 72 ∧
    ([2 ^ 64 - 1].length = 1 ∧ ∀ w ∈ [2 ^ 64 - 1], w < 2 ^ 64) ∧ (8 ≤ 64 ∧ 2 ^ 8 ≤ 256) ∧
    ([2 ^ 32 - 1, 0, 5].length = (72 + 31) / 32 ∧ ∀ w ∈ [2 ^ 32 - 1, 0, 5], w < 2 ^ 32) := by decide

theorem witness_PushPendingAppendsToItsSlot : (0 : TxnId) ≠ 15 ∧ Side.write ≠ Side.read := by decide

theorem witness_PopPendingRemovesTheOldest :
    (pendingOf .read { run 32 with rd_pending := one 3 [8, 2] })[(3 : TxnId)] = [8, 2] ∧
    (pendingOf .write { run 32 with wr_pending := one 15 [1] })[(15 : TxnId)] = [1] := by decide

/-- Two read requests queued, not yet driven. -/
def queued : State := { run 32 with ar_queue := [⟨0, 7, 0⟩, ⟨0x80, 0, 5⟩] }

/-- The first of them driven. -/
def requesting : State := { queued with arvalid_q := true, arlen_q := 7 }

theorem witness_ArIdleDrivesTheFrontRequest :
    ((run 32).started = true ∧ (run 32).fault = none ∧ (run 32).arvalid_q = false ∧ (run 32).ar_queue = []) ∧
    queued.started = true ∧ queued.fault = none ∧ queued.arvalid_q = false ∧
      queued.ar_queue = [⟨0, 7, 0⟩, ⟨0x80, 0, 5⟩] := by decide

theorem requesting_arOutputs : arOutputs requesting :=
  ⟨fun _ => ⟨⟨0, 7, 0⟩, [⟨0x80, 0, 5⟩], rfl, rfl, rfl, rfl⟩, fun h => by cases h⟩

theorem witness_ArStallHoldsTheRequest :
    (requesting.started = true ∧ requesting.fault = none ∧ requesting.arvalid_q = true ∧
      requesting.ar_queue = [⟨0, 7, 0⟩, ⟨0x80, 0, 5⟩]) ∧ arOutputs requesting :=
  ⟨by decide, requesting_arOutputs⟩

theorem witness_ArAcceptRecordsTheRequestAndDrivesTheNext :
    (requesting.started = true ∧ requesting.fault = none ∧ requesting.arvalid_q = true ∧
      requesting.ar_queue = [⟨0, 7, 0⟩, ⟨0x80, 0, 5⟩]) ∧
    ({ requesting with ar_queue := [⟨0, 7, 0⟩] } : State).ar_queue = [⟨0, 7, 0⟩] := by decide

theorem witness_RNobeatRaisesReadyOnly :
    ((run 32).started = true ∧ (run 32).fault = none ∧ (run 32).rready_q = true) ∧
    ({ run 32 with rready_q := false } : State).rready_q = false := by decide

/-- A burst of ID 3 outstanding, none of its beats accepted. -/
def outstanding : State := { run 32 with rd_pending := one 3 [2] }

/-- One beat of it accepted. -/
def assembling : State := { outstanding with r_burst_id := 3, r_burst_data := [0xAA] }

theorem witness_RBeatCollectsOrRaises :
    (outstanding.started = true ∧ outstanding.fault = none ∧ outstanding.rready_q = true ∧
      2 ^ 32 - 1 < 2 ^ DW outstanding ∧ outstanding.r_burst_data = [] ∧ outstanding.rd_pending[(3 : TxnId)] ≠ [] ∧
      outstanding.rd_pending[(4 : TxnId)] = []) ∧
    assembling.started = true ∧ assembling.fault = none ∧ assembling.rready_q = true ∧ 0 < 2 ^ DW assembling ∧
      assembling.r_burst_data ≠ [] ∧ 3 = assembling.r_burst_id ∧ 4 ≠ assembling.r_burst_id := by decide

theorem witness_RLastPublishesTheBurstOrRaises :
    (assembling.started = true ∧ assembling.fault = none ∧ assembling.rready_q = true ∧ 0xBB < 2 ^ DW assembling ∧
      3 = assembling.r_burst_id ∧ assembling.rd_pending[(3 : TxnId)] = [2] ∧ 2 = assembling.r_burst_data.length + 1) ∧
    (outstanding.started = true ∧ outstanding.fault = none ∧ outstanding.rready_q = true ∧ 0 < 2 ^ DW outstanding ∧
      outstanding.r_burst_data = [] ∧ outstanding.rd_pending[(4 : TxnId)] = [] ∧
      outstanding.rd_pending[(3 : TxnId)] = [2] ∧ 2 ≠ outstanding.r_burst_data.length + 1) ∧
    assembling.r_burst_data ≠ [] ∧ 4 ≠ assembling.r_burst_id := by decide

/-- Two write requests, the first driven or not. -/
def writing (driven : Bool) : State :=
  { run 64 with
    aw_queue := [⟨0x40, 1, 5, [0x11, 0x22]⟩, ⟨0x80, 0, 6, [0x33]⟩], awvalid_q := driven
    awaddr_q := if driven then 0x40 else 0, awlen_q := if driven then 1 else 0, awid_q := if driven then 5 else 0 }

theorem writing_awOutputs : awOutputs (writing true) :=
  ⟨fun _ => ⟨⟨0x40, 1, 5, [0x11, 0x22]⟩, [⟨0x80, 0, 6, [0x33]⟩], rfl, rfl, rfl, rfl⟩, fun h => by cases h⟩

theorem witness_AwIdleAndStallDriveTheFrontRequest :
    ((run 64).started = true ∧ (run 64).fault = none ∧ (run 64).awvalid_q = false ∧ (run 64).aw_queue = []) ∧
    ((writing false).started = true ∧ (writing false).fault = none ∧ (writing false).awvalid_q = false ∧
      (writing false).aw_queue ≠ []) ∧
    ((writing true).awvalid_q = true ∧ (writing true).aw_queue ≠ []) ∧ awOutputs (writing true) :=
  ⟨by decide, by decide, by decide, writing_awOutputs⟩

theorem witness_AwAcceptRecordsTheRequestAndFeedsW :
    (writing true).started = true ∧ (writing true).fault = none ∧
    (writing true).cfg = some { interface_name := "m0", data_width_bits := 64, addr_width_bits := 16 } ∧
    (writing true).awvalid_q = true ∧
    (writing true).aw_queue = [⟨0x40, 1, 5, [0x11, 0x22]⟩, ⟨0x80, 0, 6, [0x33]⟩] := by decide

theorem witness_WIdlePresentsTheFrontBeat :
    ((run 64).wvalid_q = false ∧ (run 64).w_queue = []) ∧
    ({ sending 2 with wvalid_q := false } : State).wvalid_q = false ∧ (sending 2).w_queue = [⟨[0x11, 0x22, 0x33], 24⟩] ∧
    [0x11, 0x22, 0x33][(sending 2).w_idx]? = some 0x33 ∧ 0x33 < 2 ^ DW (sending 2) := by decide

/-- The final beat driven, as R43 (d) has it. -/
def presenting : State := { sending 2 with wdata_q := 0x33, wlast_q := true }

theorem presenting_wOutputs : wOutputs presenting :=
  ⟨fun _ => ⟨⟨[0x11, 0x22, 0x33], 24⟩, [], rfl, rfl, by decide⟩, fun h => by cases h⟩

theorem witness_WStallHoldsTheBeat :
    (presenting.started = true ∧ presenting.fault = none ∧ presenting.wvalid_q = true ∧
      presenting.w_queue = [⟨[0x11, 0x22, 0x33], 24⟩] ∧ [0x11, 0x22, 0x33][presenting.w_idx]? = some 0x33 ∧
      0x33 < 2 ^ DW presenting) ∧ wOutputs presenting :=
  ⟨by decide, presenting_wOutputs⟩

theorem witness_WAcceptAdvances :
    ((sending 1).started = true ∧ (sending 1).fault = none ∧ (sending 1).wvalid_q = true ∧
      (sending 1).w_queue = [⟨[0x11, 0x22, 0x33], 24⟩] ∧ (sending 1).w_idx + 1 < [0x11, 0x22, 0x33].length ∧
      [0x11, 0x22, 0x33][(sending 1).w_idx + 1]? = some 0x33 ∧ 0x33 < 2 ^ DW (sending 1)) ∧
    presenting.w_idx + 1 = [0x11, 0x22, 0x33].length ∧
    ({ presenting with w_queue := [⟨[0x11, 0x22, 0x33], 24⟩, ⟨[6, 7], 16⟩] } : State).w_queue =
      [⟨[0x11, 0x22, 0x33], 24⟩, ⟨[6, 7], 16⟩] := by decide

theorem witness_BNobeatRaisesReadyOnly :
    ((run 64).started = true ∧ (run 64).fault = none ∧ (run 64).bready_q = true) ∧
    ({ run 64 with bready_q := false } : State).bready_q = false := by decide

/-- A write of ID 5 outstanding. -/
def writeOutstanding : State := { run 64 with wr_pending := one 5 [3] }

theorem witness_BRespFreesTheWriteOrRaises :
    writeOutstanding.started = true ∧ writeOutstanding.fault = none ∧ writeOutstanding.bready_q = true ∧
    writeOutstanding.wr_pending[(5 : TxnId)] = [3] ∧ writeOutstanding.wr_pending[(6 : TxnId)] = [] ∧
    writeOutstanding.params.enforce_okay = true ∧ (1 : BitVec 2) ≠ 0 := by decide

theorem witness_ConstructMakesAFreshInstance :
    (State.reset.waiting = none ∧ State.reset.fault = none) ∧ (8 % 8 = 0 ∧ 8 ≤ 8 ∧ 64 ≤ 64) ∧
    100 % 8 ≠ 0 ∧ 0 < 8 ∧ 64 < 65 := by decide

theorem witness_InitStartsTheInstance :
    ({ run 32 with started := false } : State).cfg.isSome = true ∧ (run 32).waiting = none ∧ (run 32).fault = none ∧
    ({ run 32 with started := false } : State).started = false := by decide

/-- The configuration of `run dw`. -/
def cfgOf (dw : Nat) : BusConfig := { interface_name := "m0", data_width_bits := dw, addr_width_bits := 16 }

theorem witness_SendReadQueuesTheRequest :
    ((run 32).cfg = some (cfgOf 32) ∧ (run 32).waiting = none ∧ (run 32).fault = none) ∧
    (0xFF8 % (32 / 8) = 0 ∧ 8 % (32 / 8) = 0 ∧ 0xFF8 % 4096 + 8 ≤ 4096 ∧ (run 32).started = true ∧ 0 < 8 ∧
      0xFF8 + 8 ≤ 2 ^ (cfgOf 32).addr_width_bits ∧ 8 * 8 / 32 - 1 < 2 ^ (run 32).params.len_w) ∧
    0x42 % (32 / 8) ≠ 0 ∧ 6 % (32 / 8) ≠ 0 ∧ 4096 < 0xFFC % 4096 + 8 := by decide

theorem witness_RecvReadReturnsTheOldestBurst :
    ((run 32).cfg = some (cfgOf 32) ∧ (run 32).waiting = none ∧ (run 32).fault = none ∧ (run 32).started = true ∧
      (run 32).rd_completed[(15 : TxnId)] = []) ∧
    ({ run 32 with rd_completed := one 0 [[1, 2], [3]] } : State).rd_completed[(0 : TxnId)] = [[1, 2], [3]] := by decide

theorem witness_SendWriteQueuesTheRequest :
    ((run 64).cfg = some (cfgOf 64) ∧ (run 64).waiting = none ∧ (run 64).fault = none) ∧
    (0xFF8 % (64 / 8) = 0 ∧ 0xFF8 % 4096 + [2 ^ 64 - 1].length * (64 / 8) ≤ 4096 ∧ (run 64).started = true ∧
      (∀ v ∈ [2 ^ 64 - 1], v < 2 ^ (cfgOf 64).data_width_bits) ∧
      0xFF8 + [2 ^ 64 - 1].length * (64 / 8) ≤ 2 ^ (cfgOf 64).addr_width_bits ∧
      [2 ^ 64 - 1].length - 1 < 2 ^ (run 64).params.len_w) ∧
    0x44 % (64 / 8) ≠ 0 ∧ 4096 < 0xFF8 % 4096 + [1, 2].length * (64 / 8) := by decide

theorem witness_RecvWriteReportsACompletedWrite :
    ((run 64).cfg = some (cfgOf 64) ∧ (run 64).waiting = none ∧ (run 64).fault = none ∧ (run 64).started = true ∧
      (run 64).wr_completed[(5 : TxnId)] = []) ∧
    ({ run 64 with wr_completed := one 5 [0] } : State).wr_completed[(5 : TxnId)] = [0] := by decide

/-- The other loop shape; a burst of ID 2 and the response of a write of ID 5 are there. -/
def polling : State :=
  { run 64 with params := { Params.spec with poll_first := true }, rd_completed := one 2 [[9]], wr_completed := one 5 [0] }

theorem witness_WrappersSendAndThenWait :
    ((run 64).params.poll_first = false ∧ (∃ t, exec (.sendRead 0 128 0) (run 64) = .next t ∧ t.reply = some .ok) ∧
      (∃ t, exec (.sendWrite 0x40 [0x11] 5) (run 64) = .next t) ∧ ∃ t, exec (.sendWrite 0x44 [1] 5) (run 64) = .next t) ∧
    polling.params.poll_first = true ∧
    (∃ t u, exec (.sendRead 0 128 (2 : TxnId).val) polling = .next t ∧ t.reply = some .ok ∧
      exec (.recvRead (2 : TxnId).val) t = .next u ∧ u.reply = some (.okBurst [9])) ∧
    (∃ t u, exec (.sendWrite 0x40 [1] (4 : TxnId).val) polling = .next t ∧ t.reply = some .ok ∧
      exec (.recvWrite (4 : TxnId).val) t = .next u ∧ u.reply = some .notReady) ∧
    ∃ t, exec (.sendRead 0x44 8 (2 : TxnId).val) polling = .next t ∧ t.reply ≠ some .ok :=
  ⟨⟨rfl, ⟨_, rfl, rfl⟩, ⟨_, rfl⟩, ⟨_, rfl⟩⟩, rfl, ⟨_, _, rfl, rfl, rfl, rfl⟩, ⟨_, _, rfl, rfl, rfl, rfl⟩,
    _, rfl, by decide⟩

theorem witness_WrappersQueueTheirRequest :
    ((run 64).cfg = some (cfgOf 64) ∧ (run 64).waiting = none ∧ (run 64).fault = none ∧ (run 64).started = true ∧
      (run 64).params.poll_first = false ∧ 0xFF8 % (64 / 8) = 0) ∧
    (8 % (64 / 8) = 0 ∧ 0xFF8 % 4096 + 8 ≤ 4096 ∧ 0xFF8 + 8 ≤ 2 ^ 16 ∧ 8 * 8 / 64 - 1 < 2 ^ (run 64).params.len_w) ∧
    (∀ v ∈ [0x11], v < 2 ^ (cfgOf 64).data_width_bits) ∧
    polling.cfg = some (cfgOf 64) ∧ polling.waiting = none ∧ polling.fault = none ∧ polling.started = true ∧
      polling.params.poll_first = true ∧ polling.rd_completed[(2 : TxnId)] = [[9]] ∧
      polling.rd_completed[(3 : TxnId)] = [] ∧ polling.wr_completed[(5 : TxnId)] = [0] ∧
      polling.wr_completed[(4 : TxnId)] = [] := by decide

/-- A READ of ID 2 waits; its burst has been published. -/
def reading : State := { run 32 with waiting := some (.read 2), rd_completed := one 2 [[9]] }

theorem witness_ReadLoopIsTickThenRecvRead :
    reading.started = true ∧ reading.fault = none ∧ reading.waiting = some (.read 2) ∧
    ∃ t u, exec (.tick quiet) { reading with waiting := none } = .next t ∧ t.fault = none ∧
      exec (.recvRead (2 : TxnId).val) t = .next u ∧ u.reply = some (.okBurst [9]) :=
  ⟨rfl, rfl, rfl, _, _, rfl, rfl, rfl, rfl⟩

/-- A WRITE of ID 5 waits; no response has come. -/
def waitingWrite : State := { run 32 with waiting := some (.write 5), wr_pending := one 5 [1] }

theorem witness_WriteLoopIsTickThenRecvWrite :
    waitingWrite.started = true ∧ waitingWrite.fault = none ∧ waitingWrite.waiting = some (.write 5) ∧
    ∃ t u, exec (.tick quiet) { waitingWrite with waiting := none } = .next t ∧ t.fault = none ∧
      exec (.recvWrite (5 : TxnId).val) t = .next u ∧ u.reply = some .notReady :=
  ⟨rfl, rfl, rfl, _, _, rfl, rfl, rfl, rfl⟩

theorem witness_CommandsOutsideTheAdmittedDomainAreRefused :
    State.reset.cfg = none ∧ (run 32).started = true ∧ ({ run 32 with started := false } : State).started = false ∧
    ((run 32).cfg = some (cfgOf 32) ∧ requestValid (cfgOf 32) 0x40 8 = true ∧ requestValid (cfgOf 32) 0 0 = true ∧
      requestValid (cfgOf 32) 0x10000 4 = true ∧ 2 ^ (cfgOf 32).addr_width_bits < 0x10000 + 4 ∧
      requestValid (cfgOf 32) 0x1000 1028 = true ∧ 2 ^ (run 32).params.len_w ≤ 8 * 1028 / 32 - 1) ∧
    (run 64).cfg = some (cfgOf 64) ∧ requestValid (cfgOf 64) 0 ([2 ^ 64].length * (64 / 8)) = true ∧
      2 ^ (cfgOf 64).data_width_bits ≤ 2 ^ 64 := by decide

theorem witness_InvalidArgumentChangesNothing :
    portOf (.sendRead 0x42 8 0) = .host ∧
    ∃ t, exec (.sendRead 0x42 8 0) (run 32) = .next t ∧ t.reply = some .invalidArgument :=
  ⟨rfl, _, rfl, rfl⟩

/-- The producers are evaluated first. -/
def visible (s : State) : State := { s with params := { s.params with same_tick_visible := true } }

theorem witness_TickPerformsTheFiveSelectedEvents :
    (State.reset.started = false ∧ ({ run 32 with fault := some ⟨.RD_ID_CHANGED, 1, 2, 1⟩ } : State).fault ≠ none) ∧
    (requesting.started = true ∧ requesting.fault = none ∧ requesting.waiting = none ∧
      quiet.rdata < 2 ^ DW requesting) ∧
    (∃ t, performAll (selectedEvents requesting quiet) requesting = .next t ∧ t.fault = none) ∧
    (∃ t, performAll (selectedEvents requesting { quiet with rvalid := true }) requesting = .next t ∧
      t.fault = some ⟨.RD_NO_OUTSTANDING, 0, 0, 0⟩) ∧
    performAll (selectedEvents { run 32 with arvalid_q := true } { quiet with arready := true })
      { run 32 with arvalid_q := true } = .fault .arQueueEmpty ∧
    -- a request accepted and its first beat in one tick, which SAME_TICK_VISIBLE allows
    ∃ t, performAll (selectedEvents (visible requesting) { quiet with arready := true, rvalid := true })
      (visible requesting) = .next t ∧ t.fault = none ∧ t.r_burst_data = [0] :=
  ⟨by decide, by decide, ⟨_, rfl, rfl⟩, ⟨_, rfl, rfl⟩, rfl, _, rfl, rfl, rfl⟩

/-- All five machines at work: a read request driven, a write request driven, a write burst being sent, a read burst
under assembly, a write outstanding, a completed read. -/
def busy : State :=
  { run 32 with
    ar_queue := [⟨0x40, 1, 1⟩], arvalid_q := true, araddr_q := 0x40, arlen_q := 1, arid_q := 1
    rd_pending := one 3 [2], rd_completed := one 0 [[1, 2]], r_burst_data := [0xAA], r_burst_id := 3
    aw_queue := [⟨0x80, 0, 6, [0x33]⟩], awvalid_q := true, awaddr_q := 0x80, awlen_q := 0, awid_q := 6
    wr_pending := one 5 [3], w_queue := [⟨[0x11, 0x22, 0x33], 12⟩], w_idx := 1
    wvalid_q := true, wdata_q := 0x22, wlast_q := false
    stimuli := [{ port := .ar, bytes := [0b11] }] }

theorem busy_good : Good busy where
  config := by rintro c ⟨⟩; decide
  instanceStarted := fun _ => ⟨_, rfl⟩
  reads := by
    intro r hr
    obtain rfl := List.mem_singleton.1 hr
    exact ⟨by decide, by decide⟩
  writes := by
    intro r hr
    obtain rfl := List.mem_singleton.1 hr
    exact ⟨by decide, by decide, by decide, by decide⟩
  bursts := by
    intro b hb
    obtain rfl := List.mem_singleton.1 hb
    exact ⟨by decide, by decide, by decide⟩
  wIndex := by
    refine ⟨fun h => (by cases h), ?_⟩
    intro b q h
    cases h
    decide
  arOut := ⟨fun _ => ⟨_, _, rfl, rfl, rfl, rfl⟩, fun h => by cases h⟩
  awOut := ⟨fun _ => ⟨_, _, rfl, rfl, rfl, rfl⟩, fun h => by cases h⟩
  wOut := ⟨fun _ => ⟨_, _, rfl, rfl, by decide⟩, fun h => by cases h⟩
  assembling := by decide
  pendingCounts := by decide
  completed := by decide
  accumulated := by decide

/-- The peer accepts everything, ends the read burst and answers the outstanding write. -/
def keeping : Inputs :=
  { arready := true, rvalid := true, rdata := 0xBB, rid := 3, rlast := true, awready := true, wready := true,
    bvalid := true, bid := 5, bresp := 0 }

theorem busy_readBeatKept : readBeatKept busy keeping := fun _ => ⟨by decide, by decide, by decide⟩

theorem busy_responseKept : responseKept busy keeping := fun _ => ⟨by decide, by decide⟩

theorem witness_TickCompletesWhenThePeerKeepsItsContract :
    (Good busy ∧ busy.started = true ∧ busy.fault = none ∧ keeping.rdata < 2 ^ DW busy ∧
      readBeatKept busy keeping ∧ responseKept busy keeping) ∧
    -- a response to the write accepted at this very tick, which SAME_TICK_VISIBLE allows
    (visible busy).started = true ∧ (visible busy).fault = none ∧
      readBeatKept (visible busy) { keeping with bid := 6 } ∧ responseKept (visible busy) { keeping with bid := 6 } :=
  ⟨⟨busy_good, rfl, rfl, by decide, busy_readBeatKept, busy_responseKept⟩, rfl, rfl,
    fun _ => ⟨by decide, by decide, by decide⟩, fun _ => ⟨by decide, by decide⟩⟩

theorem witness_TickRecordsTheViolation :
    (Good busy ∧ busy.started = true ∧ busy.fault = none ∧ keeping.rdata < 2 ^ DW busy) ∧
    ¬ readBeatKept busy { keeping with rid := 4 } ∧
    readBeatKept busy { keeping with bid := 6 } ∧ ¬ responseKept busy { keeping with bid := 6 } := by
  refine ⟨⟨busy_good, rfl, rfl, by decide⟩, ?_, ?_, ?_⟩
  · intro h; exact absurd ((h (by decide)).2.1 (by decide)) (by decide)
  · exact busy_readBeatKept
  · intro h; exact absurd (h (by decide)).1 (by decide)

theorem witness_TickOrderBetweenTheSidesDoesNotMatter :
    busy.started = true ∧ busy.fault = none ∧ busy.waiting = none ∧ 0xBB < 2 ^ DW busy ∧
    busy.params.same_tick_visible = false ∧
    ∃ t, performAll [bEvent busy keeping, wEvent busy keeping, awEvent busy keeping, rEvent busy keeping,
      arEvent busy keeping] busy = .next t ∧ t.fault = none :=
  ⟨rfl, rfl, rfl, by decide, rfl, _, rfl, rfl⟩

/-- Nothing queued or outstanding; a completed burst waits to be retrieved. -/
def resting : State := { run 32 with rd_completed := one 0 [[1, 2]] }

theorem resting_good : Good resting where
  config := by rintro c ⟨⟩; decide
  instanceStarted := fun _ => ⟨_, rfl⟩
  reads := by intro r hr; cases hr
  writes := by intro r hr; cases hr
  bursts := by intro b hb; cases hb
  wIndex := ⟨fun _ => rfl, fun b q h => by cases h⟩
  arOut := ⟨fun h => (by cases h), fun _ => ⟨rfl, rfl, rfl⟩⟩
  awOut := ⟨fun h => (by cases h), fun _ => ⟨rfl, rfl, rfl⟩⟩
  wOut := ⟨fun h => (by cases h), fun _ => ⟨rfl, rfl⟩⟩
  assembling := fun h => absurd rfl h
  pendingCounts := by decide
  completed := by decide
  accumulated := by decide

theorem witness_QuiescentMachineStaysQuiescent :
    Good resting ∧ Quiescent resting ∧ resting.started = true ∧ resting.waiting = none ∧ quiet.rdata < 2 ^ DW resting ∧
    rAccepted resting quiet = false ∧ bAccepted resting quiet = false :=
  ⟨resting_good, ⟨rfl, rfl, rfl, rfl, rfl, by decide⟩, rfl, rfl, by decide, rfl, rfl⟩

theorem witness_DataInTheHandshakeCycleFaults :
    (requesting.started = true ∧ requesting.fault = none ∧ requesting.params.same_tick_visible = false ∧
      keeping.rdata < 2 ^ DW requesting ∧ requesting.ar_queue = [⟨0, 7, 0⟩, ⟨0x80, 0, 5⟩] ∧
      arAccepted requesting { keeping with rid := 0 } = true ∧ requesting.rd_pending[(0 : TxnId)] = [] ∧
      rAccepted requesting { keeping with rid := 0 } = true ∧ requesting.r_burst_data = []) ∧
    ((writing true).aw_queue = [⟨0x40, 1, 5, [0x11, 0x22]⟩, ⟨0x80, 0, 6, [0x33]⟩] ∧
      awAccepted (writing true) { keeping with rvalid := false } = true ∧ (writing true).wr_pending[(5 : TxnId)] = [] ∧
      bAccepted (writing true) { keeping with rvalid := false } = true ∧
      rAccepted (writing true) { keeping with rvalid := false } = false ∧ keeping.bid = 5) := by decide

theorem witness_IgnoredInputsHaveNoEffect :
    keeping.rdata < 2 ^ DW busy ∧ 2 ^ 32 - 1 < 2 ^ DW busy ∧ ({ busy with rready_q := false } : State).rready_q = false ∧
    quiet.rvalid = false ∧ quiet.bvalid = false := by decide

theorem witness_FaultedMachineOnlyResets :
    ({ busy with fault := some ⟨.RD_ID_CHANGED, 1, 2, 1⟩ } : State).fault = some ⟨.RD_ID_CHANGED, 1, 2, 1⟩ ∧
    portOf (.construct 32 16) = .host ∧
    ∃ t, exec .reset { busy with fault := some ⟨.RD_ID_CHANGED, 1, 2, 1⟩ } = .next t ∧
      t.fault ≠ some ⟨.RD_ID_CHANGED, 1, 2, 1⟩ :=
  ⟨rfl, rfl, _, rfl, by decide⟩

theorem witness_OnlyRAndBRaise :
    outstanding.fault = none ∧ (∃ t, exec (.rBeat 4 9) outstanding = .next t ∧ t.fault ≠ none) ∧
    ∃ t, exec (.tick { quiet with bvalid := true }) outstanding = .next t ∧ t.fault ≠ none :=
  ⟨rfl, ⟨_, rfl, by decide⟩, _, rfl, by decide⟩

theorem witness_OnlyConstructWritesTheConfiguration :
    (∃ t, exec .arAccept busy = .next t) ∧ ∀ a b, Instr.arAccept ≠ .construct a b :=
  ⟨⟨_, rfl⟩, fun _ _ h => by cases h⟩

theorem witness_EachOperationWritesOnlyItsItems :
    (∃ t, exec .arAccept busy = .next t ∧ t.fault = none ∧ t.ar_queue ≠ busy.ar_queue ∧
      t.rd_pending ≠ busy.rd_pending) ∧
    (∃ t, exec .wAccept busy = .next t ∧ t.fault = none ∧ t.w_idx ≠ busy.w_idx) ∧
    (∃ t, exec (.rLast 3 0xBB) busy = .next t ∧ t.fault = none ∧ t.rd_completed ≠ busy.rd_completed) ∧
    ∃ t, exec (.bResp 6 0) busy = .next t ∧ t.fault ≠ busy.fault :=
  ⟨⟨_, rfl, rfl, by decide, by decide⟩, ⟨_, rfl, rfl, by decide⟩, ⟨_, rfl, rfl, by decide⟩, ⟨_, rfl, by decide⟩⟩

theorem witness_ReadAndWriteSidesAreSeparate :
    (portOf .arAccept = .ar ∧ ∃ t, exec .arAccept busy = .next t ∧ t.fault = none) ∧
    portOf .awAccept = .aw ∧ ∃ t, exec .awAccept busy = .next t ∧ t.fault = none :=
  ⟨⟨rfl, _, rfl, rfl⟩, rfl, _, rfl, rfl⟩

theorem witness_RequestQueuesAreFifos :
    (∃ t, exec (.sendRead 0x1FFC 4 15) busy = .next t ∧ t.fault = none ∧ t.ar_queue ≠ busy.ar_queue) ∧
    (∃ t, exec .awAccept busy = .next t ∧ t.fault = none ∧ t.aw_queue ≠ busy.aw_queue) ∧
    (∃ t, exec (.tick keeping) busy = .next t ∧ t.fault = none ∧ t.ar_queue ≠ busy.ar_queue) ∧
    (∀ a b, Instr.awAccept ≠ .construct a b) ∧ Instr.awAccept ≠ .reset :=
  ⟨⟨_, rfl, rfl, by decide⟩, ⟨_, rfl, rfl, by decide⟩, ⟨_, rfl, rfl, by decide⟩, fun _ _ h => (by cases h), by decide⟩

theorem witness_StepKeepsTheInvariants :
    Inv busy ∧ ∃ t, step busy = .next t ∧ t.fault = none ∧ t.ar_queue = [] :=
  ⟨⟨busy_good.config, fun _ => busy_good⟩, _, rfl, rfl, rfl⟩

theorem witness_DrivenValuesFitTheirSignals :
    Good busy ∧ busy.cfg = some (cfgOf 32) ∧ driven busy .araddr = some 0x40 ∧ driven busy .wdata = some 0x22 ∧
    driven busy .bready = some 1 :=
  ⟨busy_good, by decide, by decide, by decide, by decide⟩

theorem witness_FrontRequestIsDrivenUntilAccepted :
    requesting.started = true ∧ requesting.fault = none ∧
    (∃ t, exec (.tick quiet) requesting = .next t ∧ t.fault = none) ∧
    requesting.ar_queue = [⟨0, 7, 0⟩, ⟨0x80, 0, 5⟩] ∧ (requesting.arvalid_q && quiet.arready) = false ∧
    (∃ t, exec (.tick quiet) (writing true) = .next t ∧ t.fault = none) ∧
    (writing true).aw_queue ≠ [] ∧ ((writing true).awvalid_q && quiet.awready) = false :=
  ⟨rfl, rfl, ⟨_, rfl, rfl⟩, rfl, rfl, ⟨_, rfl, rfl⟩, by decide, rfl⟩

theorem witness_FirstTickAcceptsNothing :
    State.reset.waiting = none ∧ State.reset.fault = none ∧ 32 % 8 = 0 ∧ 8 ≤ 32 ∧ 16 ≤ 64 ∧ keeping.rdata < 2 ^ 32 ∧
    (∀ i ∈ [Instr.sendRead 0x40 8 1, .write 0x80 [1] 5], portOf i = .host ∧ ∀ a b, i ≠ .construct a b) ∧
    ∃ t, performAll [.construct 32 16, .init, .sendRead 0x40 8 1, .write 0x80 [1] 5] State.reset = .next t ∧
      t.ar_queue = [⟨0x40, 1, 1⟩] ∧ t.aw_queue = [⟨0x80, 0, 5, [1]⟩] :=
  ⟨rfl, rfl, rfl, by decide, by decide, by decide, by simp [portOf], _, rfl, rfl, rfl⟩

theorem witness_TakeCompletedReturnsTheFront :
    polling.rd_completed[(2 : TxnId)] = [[9]] ∧ polling.rd_completed[(5 : TxnId)] = [] ∧
    polling.wr_completed[(5 : TxnId)] = [0] ∧ polling.wr_completed[(15 : TxnId)] = [] := by decide

theorem witness_FirstByteLiesUnderItsRow :
    (Instr.write (2 ^ 64 - 1) [0, 255] 15).wellFormed 1 = true ∧
    decode .r 1 [6, 15, 255] = .ok (.rBeat 15 255, []) ∧
    portOf (.recvRead 0) = portOf (.recvRead 3) ∧ (0x2F : Byte).toNat &&& (tableRow (.recvRead 0)).2 = 0x20 := by decide

theorem witness_NoCommandWhileAWrapperWaits :
    reading.waiting = some (.read 2) ∧ portOf (.recvRead 2) = .host ∧ portOf (.construct 32 16) = .host := by decide

/-- A wide bus, 72 bits, with a beat presented. -/
def wide : State :=
  { run 72 with w_queue := [⟨[2 ^ 72 - 1], 9⟩], wvalid_q := true, wdata_q := 2 ^ 72 - 1, wlast_q := true }

theorem wide_good : Good wide where
  config := by rintro c ⟨⟩; decide
  instanceStarted := fun _ => ⟨_, rfl⟩
  reads := by intro r hr; cases hr
  writes := by intro r hr; cases hr
  bursts := by
    intro b hb
    obtain rfl := List.mem_singleton.1 hb
    exact ⟨by decide, by decide, by decide⟩
  wIndex := by
    refine ⟨fun h => (by cases h), ?_⟩
    intro b q h
    cases h
    decide
  arOut := ⟨fun h => (by cases h), fun _ => ⟨rfl, rfl, rfl⟩⟩
  awOut := ⟨fun h => (by cases h), fun _ => ⟨rfl, rfl, rfl⟩⟩
  wOut := ⟨fun _ => ⟨_, _, rfl, rfl, by decide⟩, fun h => by cases h⟩
  assembling := fun h => absurd rfl h
  pendingCounts := by decide
  completed := by decide
  accumulated := by decide

theorem witness_WdataTravelsAsItsWords :
    (Good wide ∧ wide.fault = none ∧ wide.cfg = some (cfgOf 72) ∧ 64 < (cfgOf 72).data_width_bits) ∧
    Good busy ∧ busy.fault = none ∧ busy.cfg = some (cfgOf 32) ∧ (cfgOf 32).data_width_bits ≤ 64 :=
  ⟨⟨wide_good, rfl, rfl, by decide⟩, busy_good, rfl, rfl, by decide⟩

/-- The words of the wide beat, the top one 8 bits (2.1). -/
theorem test_wdataWords : wdataWords wide = some [0xFFFFFFFF, 0xFFFFFFFF, 0xFF] := by decide

end Sys2Proof.Tests
end

section
/-!
SUPPORT. What an operation that completes can have done: the items each channel machine writes, written out as an
update of the state before it, and one relation `Effect` that holds of every completed operation. Claims about single
operations go through `exec_effect` and need not unfold `exec` or the machines again.
-/

namespace Sys2Proof.Machine

/-! ## The words on the bus -/

/-- `unpack` undoes `pack` on every value that fits the bus (40_word_codec.md R104). -/
theorem unpack_of_pack {v dw : Nat} {words : List Nat} (h : pack v dw = some words) (hv : v < 2 ^ dw) :
    unpack words dw = v := by
  unfold pack at h
  split at h
  · next hwide =>
    obtain rfl := Option.some.inj h
    have hfits : v < 2 ^ (32 * wordsPerBeat dw) :=
      hv.trans_le (Nat.pow_le_pow_right (by norm_num) (by unfold wordsPerBeat; omega))
    simpa [unpack, hwide.not_ge, List.range_eq_range', Nat.mod_eq_of_lt hfits] using
      orWords_packWords (wordsPerBeat dw) 0 v
  · next hnarrow =>
    obtain rfl := Option.some.inj (by simpa [hv] using h)
    simp [unpack, not_lt.1 hnarrow]

/-- Zero can always be presented. -/
theorem snapshotWords_zero (s : State) : ∃ words, snapshotWords s 0 = some words := by
  simp only [snapshotWords_of_lt (s := s) (Nat.two_pow_pos _), pack]
  split <;> simp

/-- What R reads off the bus fits it. -/
theorem unpack_snapshotWords_lt {s : State} {rdata : Nat} {words : List Nat} (h : snapshotWords s rdata = some words) :
    unpack words (DW s) < 2 ^ DW s := by
  obtain ⟨hlt, hpack⟩ := snapshotWords_some h
  rwa [unpack_of_pack hpack hlt]

/-! ## The items each machine writes (10_state.md R42) -/

theorem arDrive_writes (s : State) : ∃ v a l i,
    arDrive s = { s with arvalid_q := v, araddr_q := a, arlen_q := l, arid_q := i } := by
  unfold arDrive
  split <;> exact ⟨_, _, _, _, rfl⟩

theorem awDrive_writes (s : State) : ∃ v a l i,
    awDrive s = { s with awvalid_q := v, awaddr_q := a, awlen_q := l, awid_q := i } := by
  unfold awDrive
  split <;> exact ⟨_, _, _, _, rfl⟩

theorem wDrive_writes {s t : State} (h : wDrive s = .ok t) : ∃ v d l,
    t = { s with wvalid_q := v, wdata_q := d, wlast_q := l } := by
  obtain ⟨-, rfl⟩ | ⟨b, q, v, words, -, -, -, rfl⟩ := wDrive_ok h <;> exact ⟨_, _, _, rfl⟩

theorem arStep_writes {inp : Inputs} {s t : State} (h : arStep inp s = .ok t) : ∃ q p v a l i,
    t = { s with ar_queue := q, rd_pending := p, arvalid_q := v, araddr_q := a, arlen_q := l, arid_q := i } := by
  obtain ⟨-, u, hu, rfl⟩ | ⟨-, rfl⟩ := arStep_ok h
  · obtain ⟨r, q, -, rfl⟩ := arAcceptFront_ok hu
    obtain ⟨v, a, l, i, hd⟩ := arDrive_writes (pushPending .read r.id (beatCount r.burst_len_minus1) { s with ar_queue := q })
    exact ⟨q, _, v, a, l, i, hd⟩
  · obtain ⟨v, a, l, i, hd⟩ := arDrive_writes s
    exact ⟨_, _, v, a, l, i, hd⟩

theorem rStep_writes {inp : Inputs} {words : List Nat} {s t : State} (h : rStep inp words s = .ok t) : ∃ p c d i,
    t = { s with rd_pending := p, rd_completed := c, r_burst_data := d, r_burst_id := i, rready_q := true } := by
  obtain ⟨-, rfl⟩ | ⟨-, u, hu, hrest⟩ := rStep_ok h
  · exact ⟨_, _, _, _, rfl⟩
  · obtain ⟨d, i, rfl⟩ : ∃ d i, u = { s with r_burst_data := d, r_burst_id := i } := by
      obtain ⟨-, -, rfl⟩ | ⟨-, -, rfl⟩ := rCollect_ok hu <;> exact ⟨_, _, rfl⟩
    obtain ⟨-, rfl⟩ | ⟨-, w, hw, rfl⟩ := hrest
    · exact ⟨_, _, _, _, rfl⟩
    · obtain ⟨ns, -, rfl⟩ := rPublish_ok hw
      exact ⟨_, _, _, _, rfl⟩

theorem awStep_writes {inp : Inputs} {s t : State} (h : awStep inp s = .ok t) : ∃ q p w v a l i,
    t = { s with
      aw_queue := q, wr_pending := p, w_queue := w, awvalid_q := v, awaddr_q := a, awlen_q := l, awid_q := i } := by
  obtain ⟨-, u, hu, rfl⟩ | ⟨-, rfl⟩ := awStep_ok h
  · obtain ⟨r, q, -, rfl⟩ := awAcceptFront_ok hu
    obtain ⟨v, a, l, i, hd⟩ := awDrive_writes (pushPending .write r.id (beatCount r.burst_len_minus1)
      { s with aw_queue := q, w_queue := s.w_queue ++ [{ beats := r.beats, byte_count := r.beats.length * beatBytes s }] })
    exact ⟨q, _, _, v, a, l, i, hd⟩
  · obtain ⟨v, a, l, i, hd⟩ := awDrive_writes s
    exact ⟨_, _, _, v, a, l, i, hd⟩

theorem wStep_writes {inp : Inputs} {s t : State} (h : wStep inp s = .ok t) : ∃ q n v d l,
    t = { s with w_queue := q, w_idx := n, wvalid_q := v, wdata_q := d, wlast_q := l } := by
  obtain ⟨-, u, hu, hd⟩ | ⟨-, hd⟩ := wStep_ok h
  · obtain ⟨q, n, rfl⟩ : ∃ q n, u = { s with w_queue := q, w_idx := n } := by
      obtain ⟨b, q, -, ⟨-, rfl⟩ | ⟨-, rfl⟩⟩ := wAdvance_ok hu <;> exact ⟨_, _, rfl⟩
    obtain ⟨v, d, l, rfl⟩ := wDrive_writes hd
    exact ⟨_, _, _, _, _, rfl⟩
  · obtain ⟨v, d, l, rfl⟩ := wDrive_writes hd
    exact ⟨_, _, _, _, _, rfl⟩

theorem bStep_writes {inp : Inputs} {s t : State} (h : bStep inp s = .ok t) : ∃ p c,
    t = { s with wr_pending := p, wr_completed := c, bready_q := true } := by
  obtain ⟨-, rfl⟩ | ⟨-, u, hu, rfl⟩ := bStep_ok h
  · exact ⟨_, _, rfl⟩
  · obtain ⟨-, -, rfl⟩ := bRespond_ok hu
    exact ⟨_, _, rfl⟩

/-- A poll takes a burst for a waiting READ or a response for a waiting WRITE, and ends the wrapper. -/
theorem pollWaiting_writes (s : State) :
    pollWaiting s = s ∨
      (∃ k c r, s.waiting = some (.read k) ∧ pollWaiting s = { s with rd_completed := c, reply := r, waiting := none }) ∨
      ∃ k c r, s.waiting = some (.write k) ∧ pollWaiting s = { s with wr_completed := c, reply := r, waiting := none } := by
  obtain h | ⟨k, b, bs, hw, -, h⟩ | ⟨k, n, ns, hw, -, h⟩ := pollWaiting_cases s
  · exact .inl h
  · exact .inr (.inl ⟨k, _, _, hw, h⟩)
  · exact .inr (.inr ⟨k, _, _, hw, h⟩)

/-! ## The whole tick -/

/-- What each machine keeps, the five steps of a tick keep, in either order. -/
theorem tickMachines_keeps {P : State → Prop} {inp : Inputs} {words : List Nat} {s t : State}
    (har : ∀ u v, P u → arStep inp u = .ok v → P v) (hr : ∀ u v, P u → rStep inp words u = .ok v → P v)
    (haw : ∀ u v, P u → awStep inp u = .ok v → P v) (hw : ∀ u v, P u → wStep inp u = .ok v → P v)
    (hb : ∀ u v, P u → bStep inp u = .ok v → P v) (h : tickMachines inp words s = .ok t) (hs : P s) : P t := by
  unfold tickMachines at h
  split at h <;> simp only [bind_ok_iff] at h
  · obtain ⟨s1, h1, s2, h2, s3, h3, s4, h4, h5⟩ := h
    exact hw _ _ (hb _ _ (hr _ _ (haw _ _ (har _ _ hs h1) h2) h3) h4) h5
  · obtain ⟨s1, h1, s2, h2, s3, h3, s4, h4, h5⟩ := h
    exact haw _ _ (har _ _ (hw _ _ (hb _ _ (hr _ _ hs h1) h2) h3) h4) h5

/-! ## Everything an operation that completes can do -/

/-- `Effect s i t`: operation `i`, made in `s`, completes with `t`. An event is the step of its machine on inputs that
select it. -/
inductive Effect (s : State) : Instr → State → Prop
  | idle {i : Instr} (notHost : portOf i ≠ .host) (stopped : running s = false) : Effect s i s
  | raise {i : Instr} (v : FaultRecord) (runs : running s = true)
      (raiser : portOf i = .r ∨ portOf i = .b ∨ ∃ inp, i = .tick inp) : Effect s i (takeViolation v s)
  | ar {t : State} (inp : Inputs) (runs : running s = true) (done : arStep inp s = .ok t) : Effect s (arEvent s inp) t
  | r {t : State} (inp : Inputs) (words : List Nat) (runs : running s = true)
      (presented : snapshotWords s inp.rdata = some words) (done : rStep inp words s = .ok t) : Effect s (rEvent s inp) t
  | aw {t : State} (inp : Inputs) (runs : running s = true) (done : awStep inp s = .ok t) : Effect s (awEvent s inp) t
  | w {t : State} (inp : Inputs) (runs : running s = true) (done : wStep inp s = .ok t) : Effect s (wEvent s inp) t
  | b {t : State} (inp : Inputs) (runs : running s = true) (done : bStep inp s = .ok t) : Effect s (bEvent s inp) t
  | tick {t : State} (inp : Inputs) (words : List Nat) (runs : running s = true)
      (presented : snapshotWords s inp.rdata = some words) (done : tickMachines inp words s = .ok t) :
      Effect s (.tick inp) (pollWaiting t)
  | reset : Effect s .reset (freshInstance s.cfg s)
  | decline {i : Instr} (reply : Reply) (host : portOf i = .host) (gate : commandGate s = none)
      (unchanged : reply = .notReady ∨ reply = .invalidArgument) : Effect s i (respond reply s)
  | construct {dw aw : Nat} (gate : commandGate s = none) (wellFormed : configWellFormed ⟨s.iface_strap, dw, aw⟩ = true) :
      Effect s (.construct dw aw) (respond .ok (freshInstance (some ⟨s.iface_strap, dw, aw⟩) s))
  | init (c : BusConfig) (cfg : s.cfg = some c) (gate : commandGate s = none) (stopped : s.started = false) :
      Effect s .init (respond .ok { s with started := true })
  | sendRead {addr len id : Nat} (c : BusConfig) (req : PendingRequest) (cfg : s.cfg = some c)
      (gate : commandGate s = none) (checked : checkRead s c addr len id = .request req) :
      Effect s (.sendRead addr len id) (respond .ok { s with ar_queue := s.ar_queue ++ [req] })
  | read {addr len id : Nat} (c : BusConfig) (req : PendingRequest) (cfg : s.cfg = some c)
      (gate : commandGate s = none) (checked : checkRead s c addr len id = .request req) :
      Effect s (.read addr len id) (startWaiting (.read req.id) { s with ar_queue := s.ar_queue ++ [req] })
  | sendWrite {addr id : Nat} {data : List Nat} (c : BusConfig) (req : WriteRequest) (cfg : s.cfg = some c)
      (gate : commandGate s = none) (checked : checkWrite s c addr data id = .request req) :
      Effect s (.sendWrite addr data id) (respond .ok { s with aw_queue := s.aw_queue ++ [req] })
  | write {addr id : Nat} {data : List Nat} (c : BusConfig) (req : WriteRequest) (cfg : s.cfg = some c)
      (gate : commandGate s = none) (checked : checkWrite s c addr data id = .request req) :
      Effect s (.write addr data id) (startWaiting (.write req.id) { s with aw_queue := s.aw_queue ++ [req] })
  | recvRead (k : TxnId) {burst : List Nat} {later : List (List Nat)} (gate : commandGate s = none)
      (front : s.rd_completed[k] = burst :: later) :
      Effect s (.recvRead k.val) (respond (.okBurst burst) { s with rd_completed := popSlot s.rd_completed k })
  | recvWrite (k : TxnId) {code : Nat} {later : List Nat} (gate : commandGate s = none)
      (front : s.wr_completed[k] = code :: later) :
      Effect s (.recvWrite k.val) (respond .ok { s with wr_completed := popSlot s.wr_completed k })

/-! ### Events -/

/-- A peer that drives nothing: the inputs of an event are these, but for the signals it reads. -/
def silent : Inputs :=
  { arready := false, rvalid := false, rdata := 0, rid := 0, rlast := false, awready := false, wready := false,
    bvalid := false, bid := 0, bresp := 0 }

/-- An event that ends as its machine's step does has the effects of the step. -/
theorem channelEvent_effect {i : Instr} {sel : Bool} {event machine : State → Except Halt State} {s t : State}
    (hport : portOf i ≠ .host) (heq : sel = true → event s = machine s)
    (hok : sel = true → running s = true → machine s = .ok t → Effect s i t)
    (hraise : ∀ v, machine s = .error (.violation v) → portOf i = .r ∨ portOf i = .b)
    (h : channelEvent sel event s = .next t) : Effect s i t := by
  obtain ⟨hstop, rfl⟩ | ⟨hrun, hsel, hdone | ⟨v, hv, rfl⟩⟩ := channelEvent_next h
  · exact .idle hport hstop
  · exact hok hsel hrun (heq hsel ▸ hdone)
  · have hr := hraise v (heq hsel ▸ hv)
    exact .raise v hrun (by tauto)

theorem arEvent_effect {i : Instr} {sel : Bool} {event : State → Except Halt State} {s t : State} (inp : Inputs)
    (hport : portOf i = .ar) (h : channelEvent sel event s = .next t)
    (hsel : sel = true → arEvent s inp = i ∧ event s = arStep inp s) : Effect s i t :=
  channelEvent_effect (by simp [hport]) (fun hs => (hsel hs).2) (fun hs hrun hok => (hsel hs).1 ▸ .ar inp hrun hok)
    (fun v hv => by cases (arStep_error hv).1) h

theorem awEvent_effect {i : Instr} {sel : Bool} {event : State → Except Halt State} {s t : State} (inp : Inputs)
    (hport : portOf i = .aw) (h : channelEvent sel event s = .next t)
    (hsel : sel = true → awEvent s inp = i ∧ event s = awStep inp s) : Effect s i t :=
  channelEvent_effect (by simp [hport]) (fun hs => (hsel hs).2) (fun hs hrun hok => (hsel hs).1 ▸ .aw inp hrun hok)
    (fun v hv => by cases (awStep_error hv).1) h

theorem wEvent_effect {i : Instr} {sel : Bool} {event : State → Except Halt State} {s t : State} (inp : Inputs)
    (hport : portOf i = .w) (h : channelEvent sel event s = .next t)
    (hsel : sel = true → wEvent s inp = i ∧ event s = wStep inp s) : Effect s i t :=
  channelEvent_effect (by simp [hport]) (fun hs => (hsel hs).2) (fun hs hrun hok => (hsel hs).1 ▸ .w inp hrun hok)
    (fun v hv => by obtain ⟨f, hf⟩ := wStep_error hv; cases hf) h

theorem bEvent_effect {i : Instr} {sel : Bool} {event : State → Except Halt State} {s t : State} (inp : Inputs)
    (hport : portOf i = .b) (h : channelEvent sel event s = .next t)
    (hsel : sel = true → bEvent s inp = i ∧ event s = bStep inp s) : Effect s i t :=
  channelEvent_effect (by simp [hport]) (fun hs => (hsel hs).2) (fun hs hrun hok => (hsel hs).1 ▸ .b inp hrun hok)
    (fun _ _ => .inr hport) h

theorem rEvent_effect {i : Instr} {sel : Bool} {event : State → Except Halt State} {s t : State} (inp : Inputs)
    (words : List Nat) (hport : portOf i = .r) (hwords : snapshotWords s inp.rdata = some words)
    (h : channelEvent sel event s = .next t) (hsel : sel = true → rEvent s inp = i ∧ event s = rStep inp words s) : Effect s i t :=
  channelEvent_effect (by simp [hport]) (fun hs => (hsel hs).2)
    (fun hs hrun hok => (hsel hs).1 ▸ .r inp words hrun hwords hok) (fun _ _ => .inl hport) h

/-- An R event with a payload presents its words and is then a channel event. -/
theorem dataEvent_effect {i : Instr} {sel : Bool} {event : List Nat → State → Except Halt State} {s t : State}
    (inp : Inputs) (hport : portOf i = .r) (h : dataEvent sel inp.rdata event s = .next t)
    (hsel : ∀ words, sel = true → rEvent s inp = i ∧ event words s = rStep inp words s) : Effect s i t := by
  unfold dataEvent at h
  split at h
  · next hstop =>
    cases h
    exact .idle (by simp [hport]) (by simpa using hstop)
  · split at h
    · cases h
    · next words hwords => exact rEvent_effect inp words hport hwords h (hsel words)

theorem execArIdle_effect {arready : Bool} {s t : State} (h : execArIdle arready s = .next t) :
    Effect s (.arIdle arready) t :=
  arEvent_effect { silent with arready := arready } rfl h fun hs => by simp_all [arEvent, arStep, arAccepted]

theorem execArStall_effect {s t : State} (h : execArStall s = .next t) :
    Effect s .arStall t :=
  arEvent_effect silent rfl h fun hs => by simp [arEvent, arStep, arAccepted, hs, silent]

theorem execArAccept_effect {s t : State} (h : execArAccept s = .next t) :
    Effect s .arAccept t :=
  arEvent_effect { silent with arready := true } rfl h fun hs => by simp [arEvent, arStep, arAccepted, hs]

theorem execRNobeatNotReady_effect {rvalid rlast : Bool} {s t : State}
    (h : execRNobeatNotReady rvalid rlast s = .next t) : Effect s (.rNobeatNotReady rvalid rlast) t := by
  obtain ⟨words, hzero⟩ := snapshotWords_zero s
  exact rEvent_effect { silent with rvalid := rvalid, rlast := rlast } words rfl hzero h fun hs => by
    simp_all [rEvent, rStep, rAccepted]

theorem execRNobeatNotValid_effect {rlast : Bool} {s t : State} (h : execRNobeatNotValid rlast s = .next t) :
    Effect s (.rNobeatNotValid rlast) t := by
  obtain ⟨words, hzero⟩ := snapshotWords_zero s
  exact rEvent_effect { silent with rlast := rlast } words rfl hzero h fun hs => by
    simp [rEvent, rStep, rAccepted, hs, silent]

theorem execRBeat_effect {rid : TxnId} {rdata : Nat} {s t : State} (h : execRBeat rid rdata s = .next t) :
    Effect s (.rBeat rid rdata) t :=
  dataEvent_effect { silent with rvalid := true, rid := rid, rdata := rdata } rfl h fun words hs => by
    simp [rEvent, rStep, rAccepted, hs, silent]

theorem execRLast_effect {rid : TxnId} {rdata : Nat} {s t : State} (h : execRLast rid rdata s = .next t) :
    Effect s (.rLast rid rdata) t :=
  dataEvent_effect { silent with rvalid := true, rlast := true, rid := rid, rdata := rdata } rfl h fun words hs => by
    simp [rEvent, rStep, rAccepted, hs]

theorem execAwIdle_effect {awready : Bool} {s t : State} (h : execAwIdle awready s = .next t) :
    Effect s (.awIdle awready) t :=
  awEvent_effect { silent with awready := awready } rfl h fun hs => by simp_all [awEvent, awStep, awAccepted]

theorem execAwStall_effect {s t : State} (h : execAwStall s = .next t) :
    Effect s .awStall t :=
  awEvent_effect silent rfl h fun hs => by simp [awEvent, awStep, awAccepted, hs, silent]

theorem execAwAccept_effect {s t : State} (h : execAwAccept s = .next t) :
    Effect s .awAccept t :=
  awEvent_effect { silent with awready := true } rfl h fun hs => by simp [awEvent, awStep, awAccepted, hs]

theorem execWIdle_effect {wready : Bool} {s t : State} (h : execWIdle wready s = .next t) :
    Effect s (.wIdle wready) t :=
  wEvent_effect { silent with wready := wready } rfl h fun hs => by simp_all [wEvent, wStep, wAccepted]

theorem execWStall_effect {s t : State} (h : execWStall s = .next t) :
    Effect s .wStall t :=
  wEvent_effect silent rfl h fun hs => by simp [wEvent, wStep, wAccepted, hs, silent]

theorem execWAccept_effect {s t : State} (h : execWAccept s = .next t) :
    Effect s .wAccept t :=
  wEvent_effect { silent with wready := true } rfl h fun hs => by simp [wEvent, wStep, wAccepted, hs]

theorem execBNobeatNotReady_effect {bvalid : Bool} {s t : State} (h : execBNobeatNotReady bvalid s = .next t) :
    Effect s (.bNobeatNotReady bvalid) t :=
  bEvent_effect { silent with bvalid := bvalid } rfl h fun hs => by simp_all [bEvent, bStep, bAccepted]

theorem execBNobeatNotValid_effect {s t : State} (h : execBNobeatNotValid s = .next t) :
    Effect s .bNobeatNotValid t :=
  bEvent_effect silent rfl h fun hs => by simp [bEvent, bStep, bAccepted, hs, silent]

theorem execBResp_effect {bid : TxnId} {bresp : BitVec 2} {s t : State} (h : execBResp bid bresp s = .next t) :
    Effect s (.bResp bid bresp) t :=
  bEvent_effect { silent with bvalid := true, bid := bid, bresp := bresp } rfl h fun hs => by
    simp [bEvent, bStep, bAccepted, hs]

/-! ### Clock -/

theorem execTick_effect {inp : Inputs} {s t : State} (h : execTick inp s = .next t) : Effect s (.tick inp) t := by
  unfold execTick at h
  split at h
  · next hstop =>
    cases h
    exact .idle (by simp [portOf]) (by simpa using hstop)
  · next hrun =>
    have hrun : running s = true := by simpa using hrun
    split at h
    · cases h
    · next words hwords =>
      split at h
      · next u hu =>
        cases h
        exact .tick inp words hrun hwords hu
      · next e =>
        obtain hok | ⟨v, -, rfl⟩ := settle_next h
        · cases hok
        · exact .raise v hrun (.inr (.inr ⟨inp, rfl⟩))

/-! ### Host commands -/

theorem onInstance_effect {i : Instr} {cmd : BusConfig → Result} {s t : State}
    (hcmd : ∀ c, s.cfg = some c → commandGate s = none → cmd c = .next t → Effect s i t)
    (h : onInstance s cmd = .next t) : Effect s i t := by
  obtain ⟨c, hc, hw, hf, h⟩ := onInstance_next h
  exact hcmd c hc (commandGate_none.2 ⟨hw, hf⟩) h

theorem execConstruct_effect {dw aw : Nat} {s t : State} (h : execConstruct dw aw s = .next t) :
    Effect s (.construct dw aw) t := by
  unfold execConstruct at h
  split at h
  · cases h
  · next hg =>
    simp only at h
    split at h
    · next hc =>
      cases h
      exact .construct hg hc
    · cases h
      exact .decline _ rfl hg (.inr rfl)

theorem execInit_effect {s t : State} (h : execInit s = .next t) : Effect s .init t := by
  refine onInstance_effect (fun c hc hg hcmd => ?_) h
  split at hcmd
  · cases hcmd
  · next hs =>
    cases hcmd
    exact .init c hc hg (by simpa using hs)

theorem execSendRead_effect {addr len id : Nat} {s t : State} (h : execSendRead addr len id s = .next t) :
    Effect s (.sendRead addr len id) t := by
  refine onInstance_effect (fun c hc hg hcmd => ?_) h
  split at hcmd <;> cases hcmd
  · exact .decline _ rfl hg (.inr rfl)
  · next req hreq => exact .sendRead c req hc hg hreq

theorem execSendWrite_effect {addr id : Nat} {data : List Nat} {s t : State}
    (h : execSendWrite addr data id s = .next t) : Effect s (.sendWrite addr data id) t := by
  refine onInstance_effect (fun c hc hg hcmd => ?_) h
  split at hcmd <;> cases hcmd
  · exact .decline _ rfl hg (.inr rfl)
  · next req hreq => exact .sendWrite c req hc hg hreq

theorem execRead_effect {addr len id : Nat} {s t : State} (h : execRead addr len id s = .next t) :
    Effect s (.read addr len id) t := by
  refine onInstance_effect (fun c hc hg hcmd => ?_) h
  split at hcmd <;> cases hcmd
  · exact .decline _ rfl hg (.inr rfl)
  · next req hreq => exact .read c req hc hg hreq

theorem execWrite_effect {addr id : Nat} {data : List Nat} {s t : State} (h : execWrite addr data id s = .next t) :
    Effect s (.write addr data id) t := by
  refine onInstance_effect (fun c hc hg hcmd => ?_) h
  split at hcmd <;> cases hcmd
  · exact .decline _ rfl hg (.inr rfl)
  · next req hreq => exact .write c req hc hg hreq

theorem execRecvRead_effect {id : Nat} {s t : State} (h : execRecvRead id s = .next t) : Effect s (.recvRead id) t := by
  refine onInstance_effect (fun c hc hg hcmd => ?_) h
  split at hcmd
  · cases hcmd
  · next k hk =>
    obtain ⟨-, rfl⟩ := transactionDomain_ok hk
    obtain ⟨-, hnone⟩ | ⟨burst, later, hfront, hsome⟩ := takeCompletedRead_cases k s
    · obtain rfl : respond .notReady s = t := by simpa [hnone] using hcmd
      exact .decline _ rfl hg (.inl rfl)
    · rw [hsome] at hcmd
      cases hcmd
      exact .recvRead k hg hfront

theorem execRecvWrite_effect {id : Nat} {s t : State} (h : execRecvWrite id s = .next t) :
    Effect s (.recvWrite id) t := by
  refine onInstance_effect (fun c hc hg hcmd => ?_) h
  split at hcmd
  · cases hcmd
  · next k hk =>
    obtain ⟨-, rfl⟩ := transactionDomain_ok hk
    obtain ⟨-, hnone⟩ | ⟨code, later, hfront, hsome⟩ := takeCompletedWrite_cases k s
    · obtain rfl : respond .notReady s = t := by simpa [hnone] using hcmd
      exact .decline _ rfl hg (.inl rfl)
    · rw [hsome] at hcmd
      cases hcmd
      exact .recvWrite k hg hfront

/-- Every operation that completes has one of the effects. -/
theorem exec_effect {i : Instr} {s t : State} (h : exec i s = .next t) : Effect s i t := by
  cases i with
  | sendRead => exact execSendRead_effect h
  | recvRead => exact execRecvRead_effect h
  | sendWrite => exact execSendWrite_effect h
  | recvWrite => exact execRecvWrite_effect h
  | read => exact execRead_effect h
  | write => exact execWrite_effect h
  | init => exact execInit_effect h
  | construct => exact execConstruct_effect h
  | arIdle => exact execArIdle_effect h
  | arStall => exact execArStall_effect h
  | arAccept => exact execArAccept_effect h
  | rNobeatNotReady => exact execRNobeatNotReady_effect h
  | rNobeatNotValid => exact execRNobeatNotValid_effect h
  | rBeat => exact execRBeat_effect h
  | rLast => exact execRLast_effect h
  | awIdle => exact execAwIdle_effect h
  | awStall => exact execAwStall_effect h
  | awAccept => exact execAwAccept_effect h
  | wIdle => exact execWIdle_effect h
  | wStall => exact execWStall_effect h
  | wAccept => exact execWAccept_effect h
  | bNobeatNotReady => exact execBNobeatNotReady_effect h
  | bNobeatNotValid => exact execBNobeatNotValid_effect h
  | bResp => exact execBResp_effect h
  | reset =>
    cases h
    exact .reset
  | tick => exact execTick_effect h

end Sys2Proof.Machine
end

section
/-!
PROOFS. Who writes what (10_state.md R42), and that the configuration and what stands outside the block is not written
by any operation but CONSTRUCT (R20).
-/

namespace Sys2Proof.Machine

@[simp] theorem portOf_arEvent (s : State) (inp : Inputs) : portOf (arEvent s inp) = .ar := by
  unfold arEvent; split <;> rfl

@[simp] theorem portOf_rEvent (s : State) (inp : Inputs) : portOf (rEvent s inp) = .r := by
  unfold rEvent; split <;> rfl

@[simp] theorem portOf_awEvent (s : State) (inp : Inputs) : portOf (awEvent s inp) = .aw := by
  unfold awEvent; split <;> rfl

@[simp] theorem portOf_wEvent (s : State) (inp : Inputs) : portOf (wEvent s inp) = .w := by
  unfold wEvent; split <;> rfl

@[simp] theorem portOf_bEvent (s : State) (inp : Inputs) : portOf (bEvent s inp) = .b := by
  unfold bEvent; split <;> rfl

/-! ## Wrappers -/

/-- A wrapper that enters its loop does so by itself, or by a first poll in the loop shape that polls first (D24). -/
theorem startWaiting_eq (w : Waiting) (s : State) :
    startWaiting w s = { s with waiting := some w, reply := none } ∨
      (s.params.poll_first = true ∧ startWaiting w s = pollWaiting { s with waiting := some w, reply := none }) := by
  unfold startWaiting
  cases s.params.poll_first <;> simp

/-- A wrapper that starts writes what its own poll may take, and that only where the loop polls first. -/
theorem startWaiting_read_writes (k : TxnId) (s : State) : ∃ c r w,
    startWaiting (.read k) s = { s with rd_completed := c, reply := r, waiting := w } ∧
      (s.params.poll_first = false → c = s.rd_completed) := by
  obtain h | ⟨hp, h⟩ := startWaiting_eq (.read k) s <;> rw [h]
  · exact ⟨_, _, _, rfl, fun _ => rfl⟩
  · obtain h | ⟨k', c, r, -, h⟩ | ⟨k', c, r, hw, -⟩ := pollWaiting_writes { s with waiting := some (.read k), reply := none }
    · exact ⟨_, _, _, h, fun _ => rfl⟩
    · exact ⟨_, _, _, h, fun hf => by simp [hp] at hf⟩
    · cases hw

theorem startWaiting_write_writes (k : TxnId) (s : State) : ∃ c r w,
    startWaiting (.write k) s = { s with wr_completed := c, reply := r, waiting := w } ∧
      (s.params.poll_first = false → c = s.wr_completed) := by
  obtain h | ⟨hp, h⟩ := startWaiting_eq (.write k) s <;> rw [h]
  · exact ⟨_, _, _, rfl, fun _ => rfl⟩
  · obtain h | ⟨k', c, r, hw, -⟩ | ⟨k', c, r, -, h⟩ := pollWaiting_writes { s with waiting := some (.write k), reply := none }
    · exact ⟨_, _, _, h, fun _ => rfl⟩
    · cases hw
    · exact ⟨_, _, _, h, fun hf => by simp [hp] at hf⟩

/-! ## The configuration and what stands outside the block -/

/-- `t` has the configuration of `s`, and what stands outside the block is as it was (entries 1, 5, 13). -/
structure SameSetting (s t : State) : Prop where
  cfg : t.cfg = s.cfg
  params : t.params = s.params
  iface_strap : t.iface_strap = s.iface_strap
  stimuli : t.stimuli = s.stimuli

theorem SameSetting.trans {s t u : State} (h : SameSetting s t) (h' : SameSetting t u) : SameSetting s u :=
  ⟨h'.cfg.trans h.cfg, h'.params.trans h.params, h'.iface_strap.trans h.iface_strap, h'.stimuli.trans h.stimuli⟩

theorem arStep_sameSetting {inp : Inputs} {s t : State} (h : arStep inp s = .ok t) : SameSetting s t := by
  obtain ⟨q, p, v, a, l, i, rfl⟩ := arStep_writes h
  exact ⟨rfl, rfl, rfl, rfl⟩

theorem rStep_sameSetting {inp : Inputs} {words : List Nat} {s t : State} (h : rStep inp words s = .ok t) :
    SameSetting s t := by
  obtain ⟨p, c, d, i, rfl⟩ := rStep_writes h
  exact ⟨rfl, rfl, rfl, rfl⟩

theorem awStep_sameSetting {inp : Inputs} {s t : State} (h : awStep inp s = .ok t) : SameSetting s t := by
  obtain ⟨q, p, w, v, a, l, i, rfl⟩ := awStep_writes h
  exact ⟨rfl, rfl, rfl, rfl⟩

theorem wStep_sameSetting {inp : Inputs} {s t : State} (h : wStep inp s = .ok t) : SameSetting s t := by
  obtain ⟨q, n, v, d, l, rfl⟩ := wStep_writes h
  exact ⟨rfl, rfl, rfl, rfl⟩

theorem bStep_sameSetting {inp : Inputs} {s t : State} (h : bStep inp s = .ok t) : SameSetting s t := by
  obtain ⟨p, c, rfl⟩ := bStep_writes h
  exact ⟨rfl, rfl, rfl, rfl⟩

theorem tickMachines_sameSetting {inp : Inputs} {words : List Nat} {s t : State}
    (h : tickMachines inp words s = .ok t) : SameSetting s t :=
  tickMachines_keeps (P := SameSetting s) (fun _ _ hu h => hu.trans (arStep_sameSetting h))
    (fun _ _ hu h => hu.trans (rStep_sameSetting h)) (fun _ _ hu h => hu.trans (awStep_sameSetting h))
    (fun _ _ hu h => hu.trans (wStep_sameSetting h)) (fun _ _ hu h => hu.trans (bStep_sameSetting h)) h
    ⟨rfl, rfl, rfl, rfl⟩

theorem pollWaiting_sameSetting (s : State) : SameSetting s (pollWaiting s) := by
  obtain h | ⟨k, c, r, -, h⟩ | ⟨k, c, r, -, h⟩ := pollWaiting_writes s <;> rw [h] <;> exact ⟨rfl, rfl, rfl, rfl⟩

/-- Only a CONSTRUCT that succeeds writes the configuration, and it writes a well-formed one. -/
theorem Effect.setting {s t : State} {i : Instr} (h : Effect s i t) :
    SameSetting s t ∨ ∃ dw aw, i = .construct dw aw ∧ configWellFormed ⟨s.iface_strap, dw, aw⟩ = true ∧
      t = respond .ok (freshInstance (some ⟨s.iface_strap, dw, aw⟩) s) := by
  cases h with
  | construct gate wellFormed => exact .inr ⟨_, _, rfl, wellFormed, rfl⟩
  | ar inp runs done => exact .inl (arStep_sameSetting done)
  | r inp words runs presented done => exact .inl (rStep_sameSetting done)
  | aw inp runs done => exact .inl (awStep_sameSetting done)
  | w inp runs done => exact .inl (wStep_sameSetting done)
  | b inp runs done => exact .inl (bStep_sameSetting done)
  | tick inp words runs presented done => exact .inl ((tickMachines_sameSetting done).trans (pollWaiting_sameSetting _))
  | read c req cfg gate checked =>
    obtain ⟨c, r, w, ht, -⟩ := startWaiting_read_writes req.id { s with ar_queue := s.ar_queue ++ [req] }
    exact .inl (ht ▸ ⟨rfl, rfl, rfl, rfl⟩)
  | write c req cfg gate checked =>
    obtain ⟨c, r, w, ht, -⟩ := startWaiting_write_writes req.id { s with aw_queue := s.aw_queue ++ [req] }
    exact .inl (ht ▸ ⟨rfl, rfl, rfl, rfl⟩)
  | idle | raise | reset | decline | init | sendRead | sendWrite | recvRead | recvWrite =>
    exact .inl ⟨rfl, rfl, rfl, rfl⟩

theorem configWellFormed_iff (c : BusConfig) : configWellFormed c = true ↔
    c.data_width_bits % 8 = 0 ∧ 8 ≤ c.data_width_bits ∧ c.addr_width_bits ≤ 64 := by
  simp [configWellFormed, and_assoc]

/-- Settles O45: every effect but a successful CONSTRUCT keeps the setting, and that one writes a configuration its
validation has passed. -/
theorem onlyConstructWritesTheConfiguration : Obligations.OnlyConstructWritesTheConfiguration := by
  intro i s t h
  obtain ⟨hcfg, hparams, hstrap, hstimuli⟩ | ⟨dw, aw, rfl, hwf, rfl⟩ := (exec_effect h).setting
  · exact ⟨fun _ => hcfg, .inl hcfg, hparams, hstrap, hstimuli⟩
  · exact ⟨fun hne => absurd rfl (hne dw aw), .inr ⟨_, rfl, (configWellFormed_iff _).1 hwf⟩, rfl, rfl, rfl⟩

/-! ## The table of R42 -/

/-- Settles O46: each effect is an update of the items that the table names for its operation. -/
theorem eachOperationWritesOnlyItsItems : Obligations.EachOperationWritesOnlyItsItems := by
  intro i s t h hclock hconstruct
  cases exec_effect h with
  | idle | decline => simp
  | raise v runs raiser =>
    obtain hr | hb | ⟨inp, rfl⟩ := raiser
    · simp [hr]
    · simp [hb]
    · exact absurd rfl hclock
  | ar inp runs done =>
    obtain ⟨q, p, v, a, l, i, rfl⟩ := arStep_writes done
    simp
  | r inp words runs presented done =>
    obtain ⟨p, c, d, i, rfl⟩ := rStep_writes done
    simp
  | aw inp runs done =>
    obtain ⟨q, p, w, v, a, l, i, rfl⟩ := awStep_writes done
    simp
  | w inp runs done =>
    obtain ⟨q, n, v, d, l, rfl⟩ := wStep_writes done
    simp
  | b inp runs done =>
    obtain ⟨p, c, rfl⟩ := bStep_writes done
    simp
  | tick | reset => exact absurd rfl hclock
  | construct => exact absurd rfl (hconstruct _ _)
  | init | sendRead | sendWrite | recvRead | recvWrite => simp
  | read c req cfg gate checked =>
    obtain ⟨c, r, w, ht, htickFirst⟩ := startWaiting_read_writes req.id { s with ar_queue := s.ar_queue ++ [req] }
    rw [ht]
    cases hp : s.params.poll_first
    · simp [htickFirst hp]
    · simp
  | write c req cfg gate checked =>
    obtain ⟨c, r, w, ht, htickFirst⟩ := startWaiting_write_writes req.id { s with aw_queue := s.aw_queue ++ [req] }
    rw [ht]
    cases hp : s.params.poll_first
    · simp [htickFirst hp]
    · simp

end Sys2Proof.Machine
end

section
/-!
PROOFS. The invariants (10_state.md R43). The output registers of AR, AW and W are redriven by every step of their
machine, so `Good` is taken apart into what it says of a state with these registers at rest and the three clauses about
the registers themselves: an acceptance keeps the first, the drive that follows it restores the others.
-/

namespace Sys2Proof.Machine

/-! ## `Good`, apart from the registers that AR, AW and W drive -/

/-- The state with the output registers of AR, AW and W at rest. -/
def undriven (s : State) : State :=
  { s with
    arvalid_q := false, araddr_q := 0, arlen_q := 0, arid_q := 0
    awvalid_q := false, awaddr_q := 0, awlen_q := 0, awid_q := 0
    wvalid_q := false, wdata_q := 0, wlast_q := false }

theorem arOutputs_undriven (s : State) : arOutputs (undriven s) := ⟨nofun, fun _ => ⟨rfl, rfl, rfl⟩⟩

theorem awOutputs_undriven (s : State) : awOutputs (undriven s) := ⟨nofun, fun _ => ⟨rfl, rfl, rfl⟩⟩

theorem wOutputs_undriven (s : State) : wOutputs (undriven s) := ⟨nofun, fun _ => ⟨rfl, rfl⟩⟩

theorem good_iff (s : State) : Good s ↔ Good (undriven s) ∧ arOutputs s ∧ awOutputs s ∧ wOutputs s := by
  constructor
  · intro hg
    exact ⟨{ hg with
      arOut := arOutputs_undriven s
      awOut := awOutputs_undriven s
      wOut := wOutputs_undriven s }, hg.arOut, hg.awOut, hg.wOut⟩
  · rintro ⟨hg, har, haw, hw⟩
    exact { hg with arOut := har, awOut := haw, wOut := hw }

/-! ## Drives: R43 (a) to (e) hold after them -/

theorem undriven_arDrive (s : State) : undriven (arDrive s) = undriven s := by
  obtain ⟨v, a, l, i, h⟩ := arDrive_writes s
  rw [h]; rfl

theorem undriven_awDrive (s : State) : undriven (awDrive s) = undriven s := by
  obtain ⟨v, a, l, i, h⟩ := awDrive_writes s
  rw [h]; rfl

theorem arOutputs_arDrive (s : State) : arOutputs (arDrive s) := by
  unfold arDrive
  split
  · exact ⟨nofun, fun _ => ⟨rfl, rfl, rfl⟩⟩
  · next h q hq => exact ⟨fun _ => ⟨h, q, hq, rfl, rfl, rfl⟩, nofun⟩

theorem awOutputs_awDrive (s : State) : awOutputs (awDrive s) := by
  unfold awDrive
  split
  · exact ⟨nofun, fun _ => ⟨rfl, rfl, rfl⟩⟩
  · next h q hq => exact ⟨fun _ => ⟨h, q, hq, rfl, rfl, rfl⟩, nofun⟩

theorem awOutputs_arDrive {s : State} (h : awOutputs s) : awOutputs (arDrive s) := by
  obtain ⟨v, a, l, i, hd⟩ := arDrive_writes s
  rw [hd]; exact h

theorem wOutputs_arDrive {s : State} (h : wOutputs s) : wOutputs (arDrive s) := by
  obtain ⟨v, a, l, i, hd⟩ := arDrive_writes s
  rw [hd]; exact h

theorem arOutputs_awDrive {s : State} (h : arOutputs s) : arOutputs (awDrive s) := by
  obtain ⟨v, a, l, i, hd⟩ := awDrive_writes s
  rw [hd]; exact h

theorem wOutputs_awDrive {s : State} (h : wOutputs s) : wOutputs (awDrive s) := by
  obtain ⟨v, a, l, i, hd⟩ := awDrive_writes s
  rw [hd]; exact h

theorem good_arDrive {s : State} (hg : Good (undriven s)) (haw : awOutputs s) (hw : wOutputs s) : Good (arDrive s) :=
  (good_iff _).2 ⟨undriven_arDrive s ▸ hg, arOutputs_arDrive s, awOutputs_arDrive haw, wOutputs_arDrive hw⟩

theorem good_awDrive {s : State} (hg : Good (undriven s)) (har : arOutputs s) (hw : wOutputs s) : Good (awDrive s) :=
  (good_iff _).2 ⟨undriven_awDrive s ▸ hg, arOutputs_awDrive har, awOutputs_awDrive s, wOutputs_awDrive hw⟩

/-- The beat that W drives travels through `pack` and `unpack`, so that the register holds it, since it fits the bus. -/
theorem good_wDrive {s t : State} (hg : Good (undriven s)) (har : arOutputs s) (haw : awOutputs s)
    (h : wDrive s = .ok t) : Good t := by
  obtain ⟨-, rfl⟩ | ⟨b, q, v, words, hq, hv, hpack, rfl⟩ := wDrive_ok h
  · exact (good_iff _).2 ⟨hg, har, haw, nofun, fun _ => ⟨rfl, rfl⟩⟩
  · have hfits : v < 2 ^ DW s := (hg.bursts b (hq ▸ List.mem_cons_self)).2.2 v (List.mem_of_getElem? hv)
    refine (good_iff _).2 ⟨hg, har, haw, fun _ => ⟨b, q, hq, ?_, ?_⟩, nofun⟩
    · simpa [unpack_of_pack hpack hfits] using hv
    · simp

/-! ## Queues that grow at the back -/

theorem arOutputs_append {s : State} (h : arOutputs s) (r : PendingRequest) :
    arOutputs { s with ar_queue := s.ar_queue ++ [r] } := by
  refine ⟨fun hv => ?_, h.2⟩
  obtain ⟨f, q, hq, hregs⟩ := h.1 hv
  exact ⟨f, q ++ [r], by simp [hq], hregs⟩

theorem awOutputs_append {s : State} (h : awOutputs s) (r : WriteRequest) :
    awOutputs { s with aw_queue := s.aw_queue ++ [r] } := by
  refine ⟨fun hv => ?_, h.2⟩
  obtain ⟨f, q, hq, hregs⟩ := h.1 hv
  exact ⟨f, q ++ [r], by simp [hq], hregs⟩

theorem wOutputs_append {s : State} (h : wOutputs s) (b : WBurst) :
    wOutputs { s with w_queue := s.w_queue ++ [b] } := by
  refine ⟨fun hv => ?_, h.2⟩
  obtain ⟨f, q, hq, hregs⟩ := h.1 hv
  exact ⟨f, q ++ [b], by simp [hq], hregs⟩

/-- A burst appended to an empty `w_queue` is at its beat 0, which it has (R34). -/
theorem wIndexOk_append {s : State} (h : wIndexOk s) {b : WBurst} (hb : b.beats ≠ []) :
    wIndexOk { s with w_queue := s.w_queue ++ [b] } := by
  refine ⟨by simp, fun f q hq => ?_⟩
  cases hs : s.w_queue with
  | nil =>
    obtain ⟨rfl, -⟩ : b = f ∧ [] = q := by simpa [hs] using hq
    simpa [h.1 hs] using List.length_pos_of_ne_nil hb
  | cons f' q' =>
    obtain ⟨rfl, -⟩ : f' = f ∧ q' ++ [b] = q := by simpa [hs] using hq
    exact h.2 f' q' hs

/-! ## Slots -/

theorem forall_mem_pushSlot {α : Type} {P : α → Prop} {v : Slots (List α)} {x : α} (hv : ∀ k : TxnId, ∀ y ∈ v[k], P y)
    (hx : P x) (k j : TxnId) : ∀ y ∈ (pushSlot v k x)[j], P y := by
  intro y hy
  rw [pushSlot_get] at hy
  split at hy
  · obtain hy | hy := List.mem_append.1 hy
    · exact hv k y hy
    · exact List.mem_singleton.1 hy ▸ hx
  · exact hv j y hy

theorem forall_mem_popSlot {α : Type} {P : α → Prop} {v : Slots (List α)} (hv : ∀ k : TxnId, ∀ y ∈ v[k], P y)
    (k j : TxnId) : ∀ y ∈ (popSlot v k)[j], P y := by
  intro y hy
  rw [popSlot_get] at hy
  split at hy
  · exact hv k y (List.mem_of_mem_tail hy)
  · exact hv j y hy

/-! ## The machines keep `Good` -/

theorem good_arAcceptFront {s t : State} (hg : Good (undriven s)) (h : arAcceptFront s = .ok t) :
    Good (undriven t) := by
  obtain ⟨r, q, hq, rfl⟩ := arAcceptFront_ok h
  exact { hg with
    arOut := arOutputs_undriven _
    reads := fun r' hr' => hg.reads r' (hq ▸ List.mem_cons_of_mem r hr')
    assembling := fun hd => by
      have hne := hg.assembling hd
      simp only [undriven, pushPending, pushSlot_get] at hne ⊢
      split
      · simp
      · exact hne
    pendingCounts := fun k =>
      ⟨forall_mem_pushSlot (fun j => (hg.pendingCounts j).1) (Nat.le_add_left 1 _) r.id k, (hg.pendingCounts k).2⟩ }

theorem good_arStep {inp : Inputs} {s t : State} (hg : Good s) (h : arStep inp s = .ok t) : Good t := by
  obtain ⟨hu, -, haw, hw⟩ := (good_iff s).1 hg
  obtain ⟨-, u, hacc, rfl⟩ | ⟨-, rfl⟩ := arStep_ok h
  · have hgu := good_arAcceptFront hu hacc
    obtain ⟨r, q, -, rfl⟩ := arAcceptFront_ok hacc
    exact good_arDrive hgu haw hw
  · exact good_arDrive hu haw hw

theorem good_awAcceptFront {s t : State} (hg : Good (undriven s)) (h : awAcceptFront s = .ok t) :
    Good (undriven t) := by
  obtain ⟨r, q, hq, rfl⟩ := awAcceptFront_ok h
  obtain ⟨-, -, hlen, hbeats⟩ := hg.writes r (hq ▸ List.mem_cons_self)
  have hne : r.beats ≠ [] := List.ne_nil_of_length_pos (by omega)
  exact { hg with
    awOut := awOutputs_undriven _
    wOut := wOutputs_undriven _
    writes := fun r' hr' => hg.writes r' (hq ▸ List.mem_cons_of_mem r hr')
    bursts := fun b hb => by
      obtain hb | hb := List.mem_append.1 hb
      · exact hg.bursts b hb
      · obtain rfl := List.mem_singleton.1 hb
        exact ⟨hne, rfl, hbeats⟩
    wIndex := wIndexOk_append hg.wIndex hne
    pendingCounts := fun k =>
      ⟨(hg.pendingCounts k).1, forall_mem_pushSlot (fun j => (hg.pendingCounts j).2) (Nat.le_add_left 1 _) r.id k⟩ }

theorem good_awStep {inp : Inputs} {s t : State} (hg : Good s) (h : awStep inp s = .ok t) : Good t := by
  obtain ⟨hu, har, -, hw⟩ := (good_iff s).1 hg
  obtain ⟨-, u, hacc, rfl⟩ | ⟨-, rfl⟩ := awStep_ok h
  · have hgu := good_awAcceptFront hu hacc
    obtain ⟨r, q, -, rfl⟩ := awAcceptFront_ok hacc
    exact good_awDrive hgu har (wOutputs_append hw _)
  · exact good_awDrive hu har hw

/-- The index stays inside the front burst, or is 0 at the next one, which is not empty (R34, R151). -/
theorem good_wAdvance {s t : State} (hg : Good (undriven s)) (h : wAdvance s = .ok t) : Good (undriven t) := by
  obtain ⟨b, q, hq, ⟨-, rfl⟩ | ⟨hmore, rfl⟩⟩ := wAdvance_ok h
  · have hbursts : ∀ b' ∈ q, burstFits (undriven s) b' := fun b' hb' => hg.bursts b' (hq ▸ List.mem_cons_of_mem b hb')
    exact { hg with
      bursts := hbursts
      wIndex := ⟨fun _ => rfl, fun b' q' (hq' : q = b' :: q') =>
        List.length_pos_of_ne_nil (hbursts b' (hq' ▸ List.mem_cons_self)).1⟩
      wOut := wOutputs_undriven _ }
  · have hlt : s.w_idx < b.beats.length := hg.wIndex.2 b q hq
    refine { hg with wIndex := ⟨fun hnil => ?_, fun b' q' hq' => ?_⟩, wOut := wOutputs_undriven _ }
    · exact absurd (hq.symm.trans hnil) (by simp)
    · obtain ⟨rfl, -⟩ := List.cons.inj (hq.symm.trans hq')
      change s.w_idx + 1 < b.beats.length
      omega

theorem good_wStep {inp : Inputs} {s t : State} (hg : Good s) (h : wStep inp s = .ok t) : Good t := by
  obtain ⟨hu, har, haw, -⟩ := (good_iff s).1 hg
  obtain ⟨-, u, hadv, hd⟩ | ⟨-, hd⟩ := wStep_ok h
  · have hgu := good_wAdvance hu hadv
    obtain ⟨b, q, -, ⟨-, rfl⟩ | ⟨-, rfl⟩⟩ := wAdvance_ok hadv <;> exact good_wDrive hgu har haw hd
  · exact good_wDrive hu har haw hd

/-- A collected beat fits the bus, and belongs to an ID with an outstanding request (R43 f). -/
theorem good_rCollect {rid : TxnId} {words : List Nat} {s t : State} (hg : Good s)
    (hw : unpack words (DW s) < 2 ^ DW s) (h : rCollect rid words s = .ok t) : Good t ∧ t.r_burst_data ≠ [] := by
  obtain ⟨-, hp, rfl⟩ | ⟨hd, -, rfl⟩ := rCollect_ok h
  · exact ⟨{ hg with
      assembling := fun _ => hp
      accumulated := fun v hv => List.mem_singleton.1 hv ▸ hw }, by simp⟩
  · refine ⟨{ hg with
      assembling := fun _ => hg.assembling hd
      accumulated := fun v hv => ?_ }, by simp⟩
    obtain hv | hv := List.mem_append.1 hv
    · exact hg.accumulated v hv
    · exact List.mem_singleton.1 hv ▸ hw

/-- A published burst is not empty (R43 h), since a beat has just been collected. -/
theorem good_rPublish {s t : State} (hg : Good s) (hd : s.r_burst_data ≠ []) (h : rPublish s = .ok t) : Good t := by
  obtain ⟨ns, -, rfl⟩ := rPublish_ok h
  exact { hg with
    assembling := fun hne => absurd rfl hne
    pendingCounts := fun k =>
      ⟨forall_mem_popSlot (fun j => (hg.pendingCounts j).1) s.r_burst_id k, (hg.pendingCounts k).2⟩
    completed := forall_mem_pushSlot hg.completed ⟨hd, hg.accumulated⟩ s.r_burst_id
    accumulated := nofun }

theorem good_rDriveReady {s : State} (hg : Good s) : Good (rDriveReady s) := { hg with }

theorem good_rStep {inp : Inputs} {words : List Nat} {s t : State} (hg : Good s)
    (hw : unpack words (DW s) < 2 ^ DW s) (h : rStep inp words s = .ok t) : Good t := by
  obtain ⟨-, rfl⟩ | ⟨-, u, hcol, hrest⟩ := rStep_ok h
  · exact good_rDriveReady hg
  · obtain ⟨hgu, hdu⟩ := good_rCollect hg hw hcol
    obtain ⟨-, rfl⟩ | ⟨-, w, hpub, rfl⟩ := hrest
    · exact good_rDriveReady hgu
    · exact good_rDriveReady (good_rPublish hgu hdu hpub)

theorem good_bStep {inp : Inputs} {s t : State} (hg : Good s) (h : bStep inp s = .ok t) : Good t := by
  obtain ⟨-, rfl⟩ | ⟨-, u, hresp, rfl⟩ := bStep_ok h
  · exact { hg with }
  · obtain ⟨-, -, rfl⟩ := bRespond_ok hresp
    exact { hg with
      pendingCounts := fun k =>
        ⟨(hg.pendingCounts k).1, forall_mem_popSlot (fun j => (hg.pendingCounts j).2) inp.bid k⟩ }

/-- The words R reads are those of the snapshot throughout the tick, since no machine writes the width of the bus. -/
theorem good_tickMachines {inp : Inputs} {words : List Nat} {s t : State} (hg : Good s)
    (hw : unpack words (DW s) < 2 ^ DW s) (h : tickMachines inp words s = .ok t) : Good t := by
  refine (tickMachines_keeps (P := fun u => Good u ∧ SameSetting s u) ?_ ?_ ?_ ?_ ?_ h ⟨hg, rfl, rfl, rfl, rfl⟩).1
  · exact fun u v ⟨hu, hs⟩ h => ⟨good_arStep hu h, hs.trans (arStep_sameSetting h)⟩
  · exact fun u v ⟨hu, hs⟩ h => ⟨good_rStep hu (DW_congr hs.cfg ▸ hw) h, hs.trans (rStep_sameSetting h)⟩
  · exact fun u v ⟨hu, hs⟩ h => ⟨good_awStep hu h, hs.trans (awStep_sameSetting h)⟩
  · exact fun u v ⟨hu, hs⟩ h => ⟨good_wStep hu h, hs.trans (wStep_sameSetting h)⟩
  · exact fun u v ⟨hu, hs⟩ h => ⟨good_bStep hu h, hs.trans (bStep_sameSetting h)⟩

/-! ## Commands and RESET keep `Good` -/

theorem good_takeRead {s : State} (hg : Good s) (k : TxnId) : Good { s with rd_completed := popSlot s.rd_completed k } :=
  { hg with completed := forall_mem_popSlot hg.completed k }

theorem good_pollWaiting {s : State} (hg : Good s) : Good (pollWaiting s) := by
  obtain h | ⟨k, b, bs, -, -, h⟩ | ⟨k, n, ns, -, -, h⟩ := pollWaiting_cases s <;> rw [h]
  · exact hg
  · exact { good_takeRead hg k with }
  · exact { hg with }

theorem good_startWaiting {s : State} (hg : Good s) (w : Waiting) : Good (startWaiting w s) := by
  obtain h | ⟨-, h⟩ := startWaiting_eq w s <;> rw [h]
  · exact { hg with }
  · exact good_pollWaiting { hg with }

theorem readFits_of_checkRead {s : State} {c : BusConfig} {addr len id : Nat} {req : PendingRequest}
    (hc : s.cfg = some c) (h : checkRead s c addr len id = .request req) : readFits s req := by
  obtain ⟨-, -, hlen, hspan, hbeats, -, haddr, hreq⟩ := checkRead_request h
  refine ⟨?_, hreq ▸ hbeats⟩
  simp only [ADDR_W, hc, haddr]
  omega

/-- A payload takes up bytes of the address space, since a well-formed bus is at least one byte wide. -/
theorem payloadLength_pos {c : BusConfig} (hwf : configWellFormed c = true) {data : List Nat} (hne : data ≠ []) :
    0 < payloadLength c data := by
  obtain ⟨-, hwide, -⟩ := (configWellFormed_iff c).1 hwf
  exact Nat.mul_pos (List.length_pos_of_ne_nil hne) (Nat.div_pos hwide (by norm_num))

theorem writeFits_of_checkWrite {s : State} {c : BusConfig} {addr id : Nat} {data : List Nat} {req : WriteRequest}
    (hwf : configWellFormed c = true) (hc : s.cfg = some c) (h : checkWrite s c addr data id = .request req) :
    writeFits s req := by
  obtain ⟨-, -, hne, hvals, hspan, hbeats, -, haddr, hlen, rfl⟩ := checkWrite_request h
  have hpos := payloadLength_pos hwf hne
  have hcount := List.length_pos_of_ne_nil hne
  refine ⟨?_, hlen ▸ hbeats, by omega, ?_⟩
  · simp only [ADDR_W, hc, haddr]
    omega
  · simpa only [DW, hc] using hvals

theorem good_queueRead {s : State} (hg : Good s) {req : PendingRequest} (hfits : readFits s req) :
    Good { s with ar_queue := s.ar_queue ++ [req] } :=
  { hg with
    reads := fun r hr => by
      obtain hr | hr := List.mem_append.1 hr
      · exact hg.reads r hr
      · exact List.mem_singleton.1 hr ▸ hfits
    arOut := arOutputs_append hg.arOut req }

theorem good_queueWrite {s : State} (hg : Good s) {req : WriteRequest} (hfits : writeFits s req) :
    Good { s with aw_queue := s.aw_queue ++ [req] } :=
  { hg with
    writes := fun r hr => by
      obtain hr | hr := List.mem_append.1 hr
      · exact hg.writes r hr
      · exact List.mem_singleton.1 hr ▸ hfits
    awOut := awOutputs_append hg.awOut req }

/-- Right after RESET or CONSTRUCT nothing is queued, outstanding, under assembly or driven. -/
theorem good_freshInstance {cfg : Option BusConfig} (hwf : ∀ c, cfg = some c → configWellFormed c = true) (s : State) :
    Good (freshInstance cfg s) where
  config := hwf
  instanceStarted := nofun
  reads := nofun
  writes := nofun
  bursts := nofun
  wIndex := ⟨fun _ => rfl, nofun⟩
  arOut := ⟨nofun, fun _ => ⟨rfl, rfl, rfl⟩⟩
  awOut := ⟨nofun, fun _ => ⟨rfl, rfl, rfl⟩⟩
  wOut := ⟨nofun, fun _ => ⟨rfl, rfl⟩⟩
  assembling := fun h => absurd rfl h
  pendingCounts := fun k => by simp [State.reset]
  completed := fun k => by simp [State.reset]
  accumulated := nofun

theorem good_respond {s : State} (hg : Good s) (r : Reply) : Good (respond r s) := { hg with }

/-! ## The invariants -/

theorem Good.inv {s : State} (hg : Good s) : Inv s := ⟨hg.config, fun _ => hg⟩

/-- Settles O50: the reset state is that of RESET with no configuration. -/
theorem resetMeetsTheInvariants : Obligations.ResetMeetsTheInvariants :=
  (good_freshInstance (cfg := none) nofun State.reset).inv

theorem Inv.good_of_running {s : State} (hi : Inv s) (h : running s = true) : Good s :=
  hi.good ((running_iff s).1 h).2

theorem Inv.good_of_commandGate {s : State} (hi : Inv s) (h : commandGate s = none) : Good s :=
  hi.good (commandGate_none.1 h).2

/-- Every effect keeps the invariants: a machine that runs and a command that is admitted start from a `Good` state and
leave one; a violation leaves the configuration alone. -/
theorem Effect.inv {s t : State} {i : Instr} (hi : Inv s) (h : Effect s i t) : Inv t := by
  cases h with
  | idle => exact hi
  | raise => exact ⟨hi.config, nofun⟩
  | ar inp runs done => exact (good_arStep (hi.good_of_running runs) done).inv
  | r inp words runs presented done =>
    exact (good_rStep (hi.good_of_running runs) (unpack_snapshotWords_lt presented) done).inv
  | aw inp runs done => exact (good_awStep (hi.good_of_running runs) done).inv
  | w inp runs done => exact (good_wStep (hi.good_of_running runs) done).inv
  | b inp runs done => exact (good_bStep (hi.good_of_running runs) done).inv
  | tick inp words runs presented done =>
    exact (good_pollWaiting
      (good_tickMachines (hi.good_of_running runs) (unpack_snapshotWords_lt presented) done)).inv
  | reset => exact (good_freshInstance hi.config s).inv
  | decline reply host gate => exact (good_respond (hi.good_of_commandGate gate) reply).inv
  | construct gate wellFormed =>
    exact (good_respond (good_freshInstance (by rintro c ⟨⟩; exact wellFormed) s) .ok).inv
  | init c cfg gate => exact Good.inv { hi.good_of_commandGate gate with instanceStarted := fun _ => ⟨c, cfg⟩ }
  | sendRead c req cfg gate checked =>
    exact (good_respond (good_queueRead (hi.good_of_commandGate gate) (readFits_of_checkRead cfg checked)) .ok).inv
  | read c req cfg gate checked =>
    exact (good_startWaiting (good_queueRead (hi.good_of_commandGate gate) (readFits_of_checkRead cfg checked)) _).inv
  | sendWrite c req cfg gate checked =>
    exact (good_respond (good_queueWrite (hi.good_of_commandGate gate)
      (writeFits_of_checkWrite (hi.config c cfg) cfg checked)) .ok).inv
  | write c req cfg gate checked =>
    exact (good_startWaiting (good_queueWrite (hi.good_of_commandGate gate)
      (writeFits_of_checkWrite (hi.config c cfg) cfg checked)) _).inv
  | recvRead k gate => exact (good_respond (good_takeRead (hi.good_of_commandGate gate) k) _).inv
  | recvWrite k gate => exact Good.inv { hi.good_of_commandGate gate with }

theorem fetch_ok {s u : State} {i : Instr} (h : fetch s = .ok (i, u)) : ∃ later, u = { s with stimuli := later } := by
  unfold fetch at h
  split at h
  · cases h
  · split at h
    · cases h
    · cases h
      exact ⟨_, rfl⟩

/-- A step performs the presented operation in the state with its bytes taken. -/
theorem step_next {s t : State} (h : step s = .next t) :
    ∃ i later, exec i { s with stimuli := later } = .next t := by
  unfold step at h
  split at h
  · cases h
  · next i u hf =>
    obtain ⟨later, rfl⟩ := fetch_ok hf
    exact ⟨i, later, h⟩

/-- Settles O51: the operation that a step performs has an effect, and every effect keeps the invariants. -/
theorem stepKeepsTheInvariants : Obligations.StepKeepsTheInvariants := by
  intro s t hi h
  obtain ⟨i, later, hexec⟩ := step_next h
  have htaken : Inv { s with stimuli := later } := ⟨hi.config, fun hf => { hi.good hf with }⟩
  exact (exec_effect hexec).inv htaken

end Sys2Proof.Machine
end

section
/-!
PROOFS. The request queues (20_memory.md R60, R61, R69). A tick runs the address machine of a side once, and nothing
else in it touches the queue or the registers of that side (R191): so what holds of one step of the machine holds of
the tick.
-/

namespace Sys2Proof.Machine

/-! ## The two address sides -/

/-- The read requests and the registers that AR drives (10_state.md R22, R27). -/
def arSide (s : State) : List PendingRequest × Bool × Nat × Nat × TxnId :=
  (s.ar_queue, s.arvalid_q, s.araddr_q, s.arlen_q, s.arid_q)

/-- The write requests and the registers that AW drives (R30, R35). -/
def awSide (s : State) : List WriteRequest × Bool × Nat × Nat × TxnId :=
  (s.aw_queue, s.awvalid_q, s.awaddr_q, s.awlen_q, s.awid_q)

theorem arSide_eq {s t : State} (h : arSide t = arSide s) : t.ar_queue = s.ar_queue ∧ t.arvalid_q = s.arvalid_q :=
  ⟨congrArg (·.1) h, congrArg (·.2.1) h⟩

theorem awSide_eq {s t : State} (h : awSide t = awSide s) : t.aw_queue = s.aw_queue ∧ t.awvalid_q = s.awvalid_q :=
  ⟨congrArg (·.1) h, congrArg (·.2.1) h⟩

/-- The drive presents the front request (42_read_address_channel.md R121). -/
theorem arSide_arDrive {s : State} {h : PendingRequest} {q : List PendingRequest} (hq : s.ar_queue = h :: q) :
    arSide (arDrive s) = (h :: q, true, h.address, h.burst_len_minus1, h.id) := by
  simp [arSide, arDrive, hq]

/-- The drive presents the front request (44_write_channels.md R141). -/
theorem awSide_awDrive {s : State} {h : WriteRequest} {q : List WriteRequest} (hq : s.aw_queue = h :: q) :
    awSide (awDrive s) = (h :: q, true, h.address, h.burst_len_minus1, h.id) := by
  simp [awSide, awDrive, hq]

/-! ## What leaves a side as it was -/

theorem arStep_awSide {inp : Inputs} {s t : State} (h : arStep inp s = .ok t) : awSide t = awSide s := by
  obtain ⟨q, p, v, a, l, i, rfl⟩ := arStep_writes h
  rfl

theorem awStep_arSide {inp : Inputs} {s t : State} (h : awStep inp s = .ok t) : arSide t = arSide s := by
  obtain ⟨q, p, w, v, a, l, i, rfl⟩ := awStep_writes h
  rfl

theorem rStep_sides {inp : Inputs} {words : List Nat} {s t : State} (h : rStep inp words s = .ok t) :
    arSide t = arSide s ∧ awSide t = awSide s := by
  obtain ⟨p, c, d, i, rfl⟩ := rStep_writes h
  exact ⟨rfl, rfl⟩

theorem wStep_sides {inp : Inputs} {s t : State} (h : wStep inp s = .ok t) :
    arSide t = arSide s ∧ awSide t = awSide s := by
  obtain ⟨q, n, v, d, l, rfl⟩ := wStep_writes h
  exact ⟨rfl, rfl⟩

theorem bStep_sides {inp : Inputs} {s t : State} (h : bStep inp s = .ok t) :
    arSide t = arSide s ∧ awSide t = awSide s := by
  obtain ⟨p, c, rfl⟩ := bStep_writes h
  exact ⟨rfl, rfl⟩

@[simp] theorem arSide_pollWaiting (s : State) : arSide (pollWaiting s) = arSide s := by
  obtain h | ⟨k, c, r, -, h⟩ | ⟨k, c, r, -, h⟩ := pollWaiting_writes s <;> rw [h] <;> rfl

@[simp] theorem awSide_pollWaiting (s : State) : awSide (pollWaiting s) = awSide s := by
  obtain h | ⟨k, c, r, -, h⟩ | ⟨k, c, r, -, h⟩ := pollWaiting_writes s <;> rw [h] <;> rfl

/-! ## A tick, seen from one side -/

/-- The read address side goes through one step of AR in a tick, whatever comes before and after it. -/
theorem tickMachines_arStep {inp : Inputs} {words : List Nat} {s t : State} (h : tickMachines inp words s = .ok t) :
    ∃ u v, arSide u = arSide s ∧ arStep inp u = .ok v ∧ arSide t = arSide v := by
  unfold tickMachines at h
  split at h <;> simp only [bind_ok_iff] at h
  · obtain ⟨s1, har, s2, haw, s3, hr, s4, hb, hw⟩ := h
    exact ⟨s, s1, rfl, har,
      (wStep_sides hw).1.trans ((bStep_sides hb).1.trans ((rStep_sides hr).1.trans (awStep_arSide haw)))⟩
  · obtain ⟨s1, hr, s2, hb, s3, hw, s4, har, haw⟩ := h
    exact ⟨s3, s4, (wStep_sides hw).1.trans ((bStep_sides hb).1.trans (rStep_sides hr).1), har, awStep_arSide haw⟩

/-- The write address side goes through one step of AW in a tick, whatever comes before and after it. -/
theorem tickMachines_awStep {inp : Inputs} {words : List Nat} {s t : State} (h : tickMachines inp words s = .ok t) :
    ∃ u v, awSide u = awSide s ∧ awStep inp u = .ok v ∧ awSide t = awSide v := by
  unfold tickMachines at h
  split at h <;> simp only [bind_ok_iff] at h
  · obtain ⟨s1, har, s2, haw, s3, hr, s4, hb, hw⟩ := h
    exact ⟨s1, s2, arStep_awSide har, haw,
      (wStep_sides hw).2.trans ((bStep_sides hb).2.trans (rStep_sides hr).2)⟩
  · obtain ⟨s1, hr, s2, hb, s3, hw, s4, har, haw⟩ := h
    exact ⟨s4, t, (arStep_awSide har).trans
      ((wStep_sides hw).2.trans ((bStep_sides hb).2.trans (rStep_sides hr).2)), haw, rfl⟩

/-! ## The queues -/

/-- A step of AR keeps the queue, or takes the front request off it where that is accepted (R125, R126). -/
theorem arStep_queue {inp : Inputs} {s t : State} (h : arStep inp s = .ok t) : t.ar_queue = s.ar_queue ∨
    ∃ r, s.ar_queue = r :: t.ar_queue ∧ s.arvalid_q = true ∧ inp.arready = true := by
  obtain ⟨hacc, u, hu, rfl⟩ | ⟨-, rfl⟩ := arStep_ok h
  · obtain ⟨r, q, hq, rfl⟩ := arAcceptFront_ok hu
    exact .inr ⟨r, by simpa using hq, by simpa [arAccepted] using hacc⟩
  · exact .inl (arDrive_ar_queue s)

/-- A step of AW keeps the queue, or takes the front request off it where that is accepted (R144). -/
theorem awStep_queue {inp : Inputs} {s t : State} (h : awStep inp s = .ok t) : t.aw_queue = s.aw_queue ∨
    ∃ r, s.aw_queue = r :: t.aw_queue ∧ s.awvalid_q = true ∧ inp.awready = true := by
  obtain ⟨hacc, u, hu, rfl⟩ | ⟨-, rfl⟩ := awStep_ok h
  · obtain ⟨r, q, hq, rfl⟩ := awAcceptFront_ok hu
    exact .inr ⟨r, by simpa using hq, by simpa [awAccepted] using hacc⟩
  · exact .inl (awDrive_aw_queue s)

/-- The five steps of a tick do to the read requests what its step of AR does. -/
theorem tickMachines_arQueue {inp : Inputs} {words : List Nat} {s t : State} (h : tickMachines inp words s = .ok t) :
    t.ar_queue = s.ar_queue ∨ ∃ r, s.ar_queue = r :: t.ar_queue ∧ s.arvalid_q = true ∧ inp.arready = true := by
  obtain ⟨u, v, hbefore, har, hafter⟩ := tickMachines_arStep h
  obtain ⟨hqueue, hvalid⟩ := arSide_eq hbefore
  rw [(arSide_eq hafter).1, ← hqueue, ← hvalid]
  exact arStep_queue har

/-- The five steps of a tick do to the write requests what its step of AW does. -/
theorem tickMachines_awQueue {inp : Inputs} {words : List Nat} {s t : State} (h : tickMachines inp words s = .ok t) :
    t.aw_queue = s.aw_queue ∨ ∃ r, s.aw_queue = r :: t.aw_queue ∧ s.awvalid_q = true ∧ inp.awready = true := by
  obtain ⟨u, v, hbefore, haw, hafter⟩ := tickMachines_awStep h
  obtain ⟨hqueue, hvalid⟩ := awSide_eq hbefore
  rw [(awSide_eq hafter).1, ← hqueue, ← hvalid]
  exact awStep_queue haw

/-- Settles O48: each effect leaves a queue alone, appends the request it has checked, or runs the address machine,
alone or inside a tick. -/
theorem requestQueuesAreFifos : Obligations.RequestQueuesAreFifos := by
  intro i s t h hfault hreset hconstruct
  cases exec_effect h with
  | idle | decline | init | recvRead | recvWrite => exact ⟨.inl rfl, .inl rfl⟩
  | raise => cases hfault
  | reset => exact absurd rfl hreset
  | construct => exact absurd rfl (hconstruct _ _)
  | ar inp runs done =>
    refine ⟨(arStep_queue done).imp_right fun ⟨r, hq, hvalid, hready⟩ => .inr ⟨r, hq, hvalid, .inl ?_⟩,
      .inl (awSide_eq (arStep_awSide done)).1⟩
    simp [arEvent, hvalid, hready]
  | aw inp runs done =>
    refine ⟨.inl (arSide_eq (awStep_arSide done)).1,
      (awStep_queue done).imp_right fun ⟨r, hq, hvalid, hready⟩ => .inr ⟨r, hq, hvalid, .inl ?_⟩⟩
    simp [awEvent, hvalid, hready]
  | r inp words runs presented done =>
    exact ⟨.inl (arSide_eq (rStep_sides done).1).1, .inl (awSide_eq (rStep_sides done).2).1⟩
  | w inp runs done => exact ⟨.inl (arSide_eq (wStep_sides done).1).1, .inl (awSide_eq (wStep_sides done).2).1⟩
  | b inp runs done => exact ⟨.inl (arSide_eq (bStep_sides done).1).1, .inl (awSide_eq (bStep_sides done).2).1⟩
  | tick inp words runs presented done =>
    rw [(arSide_eq (arSide_pollWaiting _)).1, (awSide_eq (awSide_pollWaiting _)).1]
    exact ⟨(tickMachines_arQueue done).imp_right fun ⟨r, hq, hvalid, hready⟩ =>
        .inr ⟨r, hq, hvalid, .inr ⟨inp, rfl, hready⟩⟩,
      (tickMachines_awQueue done).imp_right fun ⟨r, hq, hvalid, hready⟩ =>
        .inr ⟨r, hq, hvalid, .inr ⟨inp, rfl, hready⟩⟩⟩
  | sendRead c req => exact ⟨.inr (.inl ⟨req, rfl, _, _, _, .inl rfl⟩), .inl rfl⟩
  | sendWrite c req => exact ⟨.inl rfl, .inr (.inl ⟨req, rfl, _, _, _, .inl rfl⟩)⟩
  | read c req =>
    obtain ⟨c, r, w, ht, -⟩ := startWaiting_read_writes req.id { s with ar_queue := s.ar_queue ++ [req] }
    rw [ht]
    exact ⟨.inr (.inl ⟨req, rfl, _, _, _, .inr rfl⟩), .inl rfl⟩
  | write c req =>
    obtain ⟨c, r, w, ht, -⟩ := startWaiting_write_writes req.id { s with aw_queue := s.aw_queue ++ [req] }
    rw [ht]
    exact ⟨.inl rfl, .inr (.inl ⟨req, rfl, _, _, _, .inr rfl⟩)⟩

/-! ## The front request -/

/-- The five steps of a tick keep a front read request that is not accepted, and present it. -/
theorem tickMachines_holds_arFront {inp : Inputs} {words : List Nat} {s t : State} {h : PendingRequest}
    {q : List PendingRequest} (hdone : tickMachines inp words s = .ok t) (hq : s.ar_queue = h :: q)
    (hheld : (s.arvalid_q && inp.arready) = false) :
    arSide t = (h :: q, true, h.address, h.burst_len_minus1, h.id) := by
  obtain ⟨u, v, hbefore, har, hafter⟩ := tickMachines_arStep hdone
  obtain ⟨hqueue, hvalid⟩ := arSide_eq hbefore
  obtain ⟨hacc, -⟩ | ⟨-, rfl⟩ := arStep_ok har
  · simp [arAccepted, hvalid, hheld] at hacc
  · rw [hafter, arSide_arDrive (hqueue.trans hq)]

/-- The five steps of a tick keep a front write request that is not accepted, and present it. -/
theorem tickMachines_holds_awFront {inp : Inputs} {words : List Nat} {s t : State} {h : WriteRequest}
    {q : List WriteRequest} (hdone : tickMachines inp words s = .ok t) (hq : s.aw_queue = h :: q)
    (hheld : (s.awvalid_q && inp.awready) = false) :
    awSide t = (h :: q, true, h.address, h.burst_len_minus1, h.id) := by
  obtain ⟨u, v, hbefore, haw, hafter⟩ := tickMachines_awStep hdone
  obtain ⟨hqueue, hvalid⟩ := awSide_eq hbefore
  obtain ⟨hacc, -⟩ | ⟨-, rfl⟩ := awStep_ok haw
  · simp [awAccepted, hvalid, hheld] at hacc
  · rw [hafter, awSide_awDrive (hqueue.trans hq)]

/-- A tick of a running machine that raises nothing performs its five steps and then polls. -/
theorem execTick_completes {inp : Inputs} {s t : State} (hrun : running s = true) (h : execTick inp s = .next t)
    (hfault : t.fault = none) : ∃ words u, tickMachines inp words s = .ok u ∧ t = pollWaiting u := by
  unfold execTick at h
  simp only [hrun, Bool.not_true, Bool.false_eq_true, if_false] at h
  split at h
  · cases h
  · next words _ =>
    split at h
    · next u hu => exact ⟨words, u, hu, by simpa using h.symm⟩
    · obtain hok | ⟨v, -, rfl⟩ := settle_next h
      · cases hok
      · cases hfault

/-- Settles O53: the tick's step of the address machine finds the request at the front, not accepted, and drives it;
the poll after the steps leaves the side alone. -/
theorem frontRequestIsDrivenUntilAccepted : Obligations.FrontRequestIsDrivenUntilAccepted := by
  intro s t inp hstarted hnone h hfault
  obtain ⟨words, u, hdone, rfl⟩ := execTick_completes ((running_iff s).2 ⟨hstarted, hnone⟩) h hfault
  refine ⟨fun r q hq hheld => ?_, fun r q hq hheld => ?_⟩
  · have hside := (arSide_pollWaiting u).trans (tickMachines_holds_arFront hdone hq hheld)
    simpa [arSide] using hside
  · have hside := (awSide_pollWaiting u).trans (tickMachines_holds_awFront hdone hq hheld)
    simpa [awSide] using hside

end Sys2Proof.Machine
end

section
/-!
PROOFS. The words of instructions (30_encoding.md R79 to R85, R89): decoding is the inverse of encoding, and the first
byte of a word tells the row of the opcode table.
-/

namespace Sys2Proof

open Sys2Proof.Machine (bind_ok_iff bind_error_iff)

/-! ## Operand bytes -/

/-- A byte is known by its value. -/
theorem byte_eq_ofNat {b : Byte} {n : Nat} (h : b.toNat = n) : b = BitVec.ofNat 8 n := by
  rw [← h, BitVec.ofNat_toNat, BitVec.setWidth_eq]

theorem idOfNat_of_mod_eq {n : Nat} {k : TxnId} (h : n % 16 = k.val) : idOfNat n = k := Fin.ext h

/-- The sampled inputs that the operand fields of a TICK's word stand for (entry 3). -/
def inputsOf (flags ids resp rdata : Nat) : Inputs :=
  { arready := flags.testBit 5, rvalid := flags.testBit 4, rlast := flags.testBit 3,
    awready := flags.testBit 2, wready := flags.testBit 1, bvalid := flags.testBit 0,
    rid := idOfNat (ids / 16), bid := idOfNat ids, bresp := BitVec.ofNat 2 resp, rdata := rdata }

theorem inputFlags_lt (inp : Inputs) : inputFlags inp < 64 := by
  have h : ∀ b : Bool, b.toNat ≤ 1 := Bool.toNat_le
  unfold inputFlags
  linarith [h inp.arready, h inp.rvalid, h inp.rlast, h inp.awready, h inp.wready, h inp.bvalid]

/-- Each bit of the flags is the signal that stands on it. -/
theorem inputFlags_testBit (inp : Inputs) :
    (inputFlags inp).testBit 5 = inp.arready ∧ (inputFlags inp).testBit 4 = inp.rvalid ∧
    (inputFlags inp).testBit 3 = inp.rlast ∧ (inputFlags inp).testBit 2 = inp.awready ∧
    (inputFlags inp).testBit 1 = inp.wready ∧ (inputFlags inp).testBit 0 = inp.bvalid := by
  have bits : ∀ a v l w r b : Bool,
      let n := 32 * a.toNat + 16 * v.toNat + 8 * l.toNat + 4 * w.toNat + 2 * r.toNat + b.toNat
      n.testBit 5 = a ∧ n.testBit 4 = v ∧ n.testBit 3 = l ∧ n.testBit 2 = w ∧ n.testBit 1 = r ∧ n.testBit 0 = b := by
    decide
  exact bits _ _ _ _ _ _

/-- The operand fields of a TICK's word give its inputs back. -/
theorem inputsOf_inputFlags (inp : Inputs) :
    inputsOf (inputFlags inp) (16 * inp.rid.val + inp.bid.val) inp.bresp.toNat inp.rdata = inp := by
  obtain ⟨h5, h4, h3, h2, h1, h0⟩ := inputFlags_testBit inp
  have hrid : idOfNat ((16 * inp.rid.val + inp.bid.val) / 16) = inp.rid := idOfNat_of_mod_eq (by omega)
  have hbid : idOfNat (16 * inp.rid.val + inp.bid.val) = inp.bid := idOfNat_of_mod_eq (by omega)
  simp only [inputsOf, h5, h4, h3, h2, h1, h0, hrid, hbid, BitVec.ofNat_toNat, BitVec.setWidth_eq]

/-- Six flags are six bits. -/
theorem inputFlags_inputsOf {flags : Nat} (h : flags < 64) (ids resp rdata : Nat) :
    inputFlags (inputsOf flags ids resp rdata) = flags := by
  have bits : ∀ f < 64, 32 * (f.testBit 5).toNat + 16 * (f.testBit 4).toNat + 8 * (f.testBit 3).toNat +
      4 * (f.testBit 2).toNat + 2 * (f.testBit 1).toNat + (f.testBit 0).toNat = f := by decide
  exact bits flags h

/-- The word of a TICK whose inputs were read from these fields has these fields. -/
theorem encode_tick_inputsOf {bw flags ids resp rdata : Nat} (hflags : flags < 64) (hids : ids < 256)
    (hresp : resp < 4) : encode bw (.tick (inputsOf flags ids resp rdata)) =
      1 :: natToBytes 1 flags ++ natToBytes 1 ids ++ natToBytes 1 resp ++ natToBytes bw rdata := by
  have hbytes : 16 * (idOfNat (ids / 16)).val + (idOfNat ids).val = ids := by
    simp only [idOfNat]
    omega
  simp only [encode, inputFlags_inputsOf hflags]
  simp only [inputsOf, hbytes, BitVec.toNat_ofNat, Nat.mod_eq_of_lt (show resp < 2 ^ 2 from hresp)]

theorem beatOperands_bytes (bw : Nat) (rid : TxnId) {rdata : Nat} (rest : List Byte) (h : rdata < 256 ^ bw) :
    beatOperands bw (natToBytes 1 rid.val ++ (natToBytes bw rdata ++ rest)) = .ok ((rid, rdata), rest) := by
  have hrid : idOfNat rid.val = rid := idOfNat_of_mod_eq (by omega)
  rw [beatOperands, field_natToBytes 1 rid.val _ (by omega)]
  simp only [Except.bind, field_natToBytes bw rdata rest h, rid.isLt, if_true, hrid]

theorem field_bind_ok {α : Type} {n : Nat} {bs : List Byte} {f : Nat × List Byte → Except Reject α} {r : α}
    (h : (field n bs).bind f = .ok r) :
    ∃ v rest, v < 256 ^ n ∧ bs = natToBytes n v ++ rest ∧ f (v, rest) = .ok r := by
  obtain ⟨⟨v, rest⟩, hfield, h⟩ := (bind_ok_iff _ _ _).1 h
  exact ⟨v, rest, (field_ok hfield).1, (field_ok hfield).2, h⟩

theorem payloadField_bind_ok {α : Type} {bw : Nat} {bs : List Byte}
    {f : List Nat × List Byte → Except Reject α} {r : α} (h : (payloadField bw bs).bind f = .ok r) :
    ∃ data rest, payloadFits bw data = true ∧ bs = payloadBytes bw data ++ rest ∧ f (data, rest) = .ok r := by
  obtain ⟨⟨data, rest⟩, hfield, h⟩ := (bind_ok_iff _ _ _).1 h
  exact ⟨data, rest, (payload_ok hfield).1, (payload_ok hfield).2, h⟩

theorem beatOperands_bind_ok {α : Type} {bw : Nat} {bs : List Byte}
    {f : (TxnId × Nat) × List Byte → Except Reject α} {r : α} (h : (beatOperands bw bs).bind f = .ok r) :
    ∃ rid rdata rest, rdata < 256 ^ bw ∧ bs = natToBytes 1 rid.val ++ natToBytes bw rdata ++ rest ∧
      f ((rid, rdata), rest) = .ok r := by
  obtain ⟨p, hp, h⟩ := (bind_ok_iff _ _ _).1 h
  obtain ⟨rid, bs1, -, hbs, hp⟩ := field_bind_ok hp
  obtain ⟨rdata, bs2, hdata, hbs1, hp⟩ := field_bind_ok hp
  simp only at hp
  split at hp
  · next hrid =>
    cases hp
    exact ⟨_, rdata, bs2, hdata, by simp [hbs, hbs1, idOfNat, Nat.mod_eq_of_lt hrid], h⟩
  · cases hp

/-! ## Selectors of two bits -/

/-- What AR, AW and W share (R79, R82): a selector byte of two bits, without operands. -/
def decodeSelector (i00 i01 i10 i11 : Instr) : List Byte → Except Reject (Instr × List Byte)
  | [] => .error .truncated
  | sel :: bs =>
    match sel.toNat with
    | 0 => .ok (i00, bs)
    | 1 => .ok (i01, bs)
    | 2 => .ok (i10, bs)
    | 3 => .ok (i11, bs)
    | _ => .error .badSelector

theorem decodeAr_eq : decodeAr = decodeSelector (.arIdle false) (.arIdle true) .arStall .arAccept := by
  funext bs
  cases bs <;> rfl

theorem decodeAw_eq : decodeAw = decodeSelector (.awIdle false) (.awIdle true) .awStall .awAccept := by
  funext bs
  cases bs <;> rfl

theorem decodeW_eq : decodeW = decodeSelector (.wIdle false) (.wIdle true) .wStall .wAccept := by
  funext bs
  cases bs <;> rfl

theorem decodeSelector_ok {i00 i01 i10 i11 i : Instr} {bs rest : List Byte}
    (h : decodeSelector i00 i01 i10 i11 bs = .ok (i, rest)) :
    (i = i00 ∧ bs = 0 :: rest) ∨ (i = i01 ∧ bs = 1 :: rest) ∨
      (i = i10 ∧ bs = 2 :: rest) ∨ (i = i11 ∧ bs = 3 :: rest) := by
  cases bs with
  | nil => cases h
  | cons sel bs =>
    simp only [decodeSelector] at h
    split at h <;> cases h <;> simp [byte_eq_ofNat ‹_›]

theorem decodeSelector_ne_badSelector {i00 i01 i10 i11 : Instr} {sel : Byte} {bs : List Byte} (h : sel.toNat < 4) :
    decodeSelector i00 i01 i10 i11 (sel :: bs) ≠ .error .badSelector := by
  simp only [decodeSelector]
  interval_cases sel.toNat <;> simp

/-! ## Decoding of encoding -/

/-- Settles O1: the header or selector byte leads to the instruction's branch, and each operand field reads what it was
written as. -/
theorem decodeOfEncodeIsTheInstruction : Obligations.DecodeOfEncodeIsTheInstruction := by
  intro bw i rest h
  cases i with
  | sendRead addr len id | read addr len id =>
    simp only [Instr.wellFormed, Bool.and_eq_true, decide_eq_true_eq] at h
    obtain ⟨⟨haddr, hlen⟩, hid⟩ := h
    simp [portOf, decode, encode, decodeHost, headerByte_fields _ _ _ hid, field_natToBytes 8 addr _ haddr,
      field_natToBytes 4 len _ hlen, Except.bind]
  | sendWrite addr data id | write addr data id =>
    simp only [Instr.wellFormed, Bool.and_eq_true, decide_eq_true_eq] at h
    obtain ⟨⟨haddr, hdata⟩, hid⟩ := h
    simp [portOf, decode, encode, decodeHost, headerByte_fields _ _ _ hid, field_natToBytes 8 addr _ haddr,
      payload_bytes bw data _ hdata, Except.bind]
  | recvRead id | recvWrite id =>
    have hid : id < 16 := by simpa [Instr.wellFormed] using h
    simp [portOf, decode, encode, decodeHost, headerByte_fields _ _ _ hid]
  | construct dwBits awBits =>
    simp only [Instr.wellFormed, Bool.and_eq_true, decide_eq_true_eq] at h
    obtain ⟨hdw, haw⟩ := h
    simp [portOf, decode, encode, decodeHost, headerByte_fields, field_natToBytes 4 dwBits _ hdw,
      field_natToBytes 4 awBits _ haw, Except.bind]
  | init | arStall | arAccept | awStall | awAccept | wStall | wAccept | bNobeatNotValid | reset => rfl
  | arIdle r | awIdle r | wIdle r | bNobeatNotReady r | rNobeatNotValid r => cases r <;> rfl
  | rNobeatNotReady v l => cases v <;> cases l <;> rfl
  | rBeat rid rdata | rLast rid rdata =>
    have hdata : rdata < 256 ^ bw := by simpa [Instr.wellFormed] using h
    simp [portOf, decode, encode, decodeR, beatOperands_bytes bw rid rest hdata, Except.bind]
  | bResp bid bresp =>
    have hbyte : 16 * bresp.toNat + bid.val < 64 := by have := bresp.isLt; omega
    have hid : idOfNat (16 * bresp.toNat + bid.val) = bid := idOfNat_of_mod_eq (by omega)
    have hresp : (16 * bresp.toNat + bid.val) / 16 = bresp.toNat := by omega
    simp [portOf, decode, encode, decodeB, field_natToBytes 1 _ rest (hbyte.trans (by decide)), Except.bind, hbyte,
      hid, hresp]
  | tick inp =>
    have hdata : inp.rdata < 256 ^ bw := by simpa [Instr.wellFormed] using h
    have hflags := inputFlags_lt inp
    have hresp : inp.bresp.toNat < 4 := inp.bresp.isLt
    simp only [portOf, decode, encode, List.cons_append, List.append_assoc, decodeClock,
      field_natToBytes 1 (inputFlags inp) _ (by omega),
      field_natToBytes 1 (16 * inp.rid.val + inp.bid.val) _ (by omega), field_natToBytes 1 inp.bresp.toNat _ (by omega),
      field_natToBytes bw inp.rdata _ hdata, Except.bind]
    simp only [hflags, hresp, and_self, if_true]
    exact congrArg (fun inp => Except.ok (Instr.tick inp, rest)) (inputsOf_inputFlags inp)

/-! ## Encoding of decoding -/

/-- What `decode p bw bs = .ok (i, rest)` is to say: `bs` begins with the word of `i`, and `rest` is left over. -/
def BeginsWithWord (p : Port) (bw : Nat) (bs : List Byte) (i : Instr) (rest : List Byte) : Prop :=
  portOf i = p ∧ i.wellFormed bw = true ∧ encode bw i ++ rest = bs

section

variable {bw : Nat} {bs rest : List Byte} {i : Instr}

theorem decodeHost_ok (h : decodeHost bw bs = .ok (i, rest)) : BeginsWithWord .host bw bs i rest := by
  cases bs with
  | nil => cases h
  | cons header bs =>
    have hid : header.toNat % 16 < 16 := Nat.mod_lt _ (by decide)
    have hheader := headerByte_of_fields header
    simp only [decodeHost] at h
    split at h
    case h_1 op heq | h_5 op heq =>
      obtain ⟨addr, bs1, haddr, hbs, h⟩ := field_bind_ok h
      obtain ⟨len, bs2, hlen, (hbs1 : bs1 = _), h⟩ := field_bind_ok h
      cases h
      exact ⟨rfl, by simp [Instr.wellFormed, hid]; omega, by simp [encode, hheader _ heq, hbs, hbs1]⟩
    case h_3 op heq | h_6 op heq =>
      obtain ⟨addr, bs1, haddr, hbs, h⟩ := field_bind_ok h
      obtain ⟨data, bs2, hdata, (hbs1 : bs1 = _), h⟩ := payloadField_bind_ok h
      cases h
      exact ⟨rfl, by simp [Instr.wellFormed, hid, hdata]; omega, by simp [encode, hheader _ heq, hbs, hbs1]⟩
    case h_2 op heq | h_4 op heq =>
      cases h
      exact ⟨rfl, by simp [Instr.wellFormed, hid], by simp [encode, hheader _ heq]⟩
    case h_7 op heq =>
      split at h
      · next hzero =>
        cases h
        exact ⟨rfl, rfl, by simp [encode, ← hzero, hheader _ heq]⟩
      · cases h
    case h_8 op heq =>
      split at h
      · next hzero =>
        obtain ⟨dwBits, bs1, hdw, hbs, h⟩ := field_bind_ok h
        obtain ⟨awBits, bs2, haw, (hbs1 : bs1 = _), h⟩ := field_bind_ok h
        cases h
        exact ⟨rfl, by simp [Instr.wellFormed]; omega, by simp [encode, ← hzero, hheader _ heq, hbs, hbs1]⟩
      · cases h
    case h_9 => cases h

theorem decodeClock_ok (h : decodeClock bw bs = .ok (i, rest)) : BeginsWithWord .clock bw bs i rest := by
  cases bs with
  | nil => cases h
  | cons sel bs =>
    simp only [decodeClock] at h
    split at h
    · next hsel =>
      cases h
      exact ⟨rfl, rfl, by simp [encode, byte_eq_ofNat hsel]⟩
    · next hsel =>
      obtain ⟨flags, bs1, -, hbs, h⟩ := field_bind_ok h
      obtain ⟨ids, bs2, hids, (hbs1 : bs1 = _), h⟩ := field_bind_ok h
      obtain ⟨resp, bs3, -, (hbs2 : bs2 = _), h⟩ := field_bind_ok h
      obtain ⟨rdata, bs4, hdata, (hbs3 : bs3 = _), h⟩ := field_bind_ok h
      simp only at h
      split at h
      · next hspare =>
        obtain ⟨hflags, hresp⟩ := hspare
        cases h
        have hword := congrArg (· ++ rest) (encode_tick_inputsOf (bw := bw) (rdata := rdata) hflags hids hresp)
        exact ⟨rfl, by simpa [Instr.wellFormed] using hdata,
          hword.trans (by simp [hbs, hbs1, hbs2, hbs3, byte_eq_ofNat hsel])⟩
      · cases h
    · cases h

theorem decodeAr_ok (h : decodeAr bs = .ok (i, rest)) : BeginsWithWord .ar bw bs i rest := by
  rw [decodeAr_eq] at h
  obtain ⟨rfl, rfl⟩ | ⟨rfl, rfl⟩ | ⟨rfl, rfl⟩ | ⟨rfl, rfl⟩ := decodeSelector_ok h <;> exact ⟨rfl, rfl, rfl⟩

theorem decodeAw_ok (h : decodeAw bs = .ok (i, rest)) : BeginsWithWord .aw bw bs i rest := by
  rw [decodeAw_eq] at h
  obtain ⟨rfl, rfl⟩ | ⟨rfl, rfl⟩ | ⟨rfl, rfl⟩ | ⟨rfl, rfl⟩ := decodeSelector_ok h <;> exact ⟨rfl, rfl, rfl⟩

theorem decodeW_ok (h : decodeW bs = .ok (i, rest)) : BeginsWithWord .w bw bs i rest := by
  rw [decodeW_eq] at h
  obtain ⟨rfl, rfl⟩ | ⟨rfl, rfl⟩ | ⟨rfl, rfl⟩ | ⟨rfl, rfl⟩ := decodeSelector_ok h <;> exact ⟨rfl, rfl, rfl⟩

theorem decodeR_ok (h : decodeR bw bs = .ok (i, rest)) : BeginsWithWord .r bw bs i rest := by
  cases bs with
  | nil => cases h
  | cons sel bs =>
    simp only [decodeR] at h
    split at h
    case h_7 _ hsel | h_8 _ hsel =>
      obtain ⟨rid, rdata, bs1, hdata, hbs, h⟩ := beatOperands_bind_ok h
      cases h
      exact ⟨rfl, by simpa [Instr.wellFormed] using hdata, by simp [encode, byte_eq_ofNat hsel, hbs]⟩
    all_goals cases h
    all_goals exact ⟨rfl, rfl, by simp [encode, byte_eq_ofNat ‹_›]⟩

theorem decodeB_ok (h : decodeB bs = .ok (i, rest)) : BeginsWithWord .b bw bs i rest := by
  cases bs with
  | nil => cases h
  | cons sel bs =>
    simp only [decodeB] at h
    split at h
    case h_4 _ hsel =>
      obtain ⟨r, bs1, -, hbs, h⟩ := field_bind_ok h
      simp only at h
      split at h
      · next hspare =>
        cases h
        have hbyte : 16 * (BitVec.ofNat 2 (r / 16)).toNat + (idOfNat r).val = r := by
          simp only [idOfNat, BitVec.toNat_ofNat]
          omega
        have hword : encode bw (.bResp (idOfNat r) (BitVec.ofNat 2 (r / 16))) = 3 :: natToBytes 1 r := by
          rw [encode, hbyte]
        exact ⟨rfl, rfl, by simp [hword, byte_eq_ofNat hsel, hbs]⟩
      · cases h
    all_goals cases h
    all_goals exact ⟨rfl, rfl, by simp [encode, byte_eq_ofNat ‹_›]⟩

end

/-- Settles O2: port by port, the branch that accepts the first byte has read it as the instruction's own, and each
operand field as the bytes of its value. -/
theorem decodedWordIsTheWordOfItsInstruction : Obligations.DecodedWordIsTheWordOfItsInstruction := by
  intro p bw bs rest i h
  cases p with
  | host => exact decodeHost_ok h
  | clock => exact decodeClock_ok h
  | ar => exact decodeAr_ok h
  | r => exact decodeR_ok h
  | aw => exact decodeAw_ok h
  | w => exact decodeW_ok h
  | b => exact decodeB_ok h

/-! ## What is rejected -/

theorem field_error {n : Nat} {bs : List Byte} {e : Reject} (h : field n bs = .error e) : e = .truncated := by
  unfold field at h
  split at h <;> cases h
  rfl

/-- The operands of a beat are never rejected as a selector. -/
theorem beatOperands_ne_badSelector (bw : Nat) (bs : List Byte) : beatOperands bw bs ≠ .error .badSelector := by
  intro h
  obtain h | ⟨⟨rid, bs1⟩, -, h⟩ := (bind_error_iff _ _ _).1 h
  · cases field_error h
  obtain h | ⟨⟨rdata, bs2⟩, -, h⟩ := (bind_error_iff _ _ _).1 h
  · cases field_error h
  · simp only at h
    split at h <;> cases h

/-- R's selector byte has three bits (R81): each of its values is a pattern. -/
theorem decodeR_ne_badSelector {bw : Nat} {sel : Byte} {bs : List Byte} (h : sel.toNat < 8) :
    decodeR bw (sel :: bs) ≠ .error .badSelector := by
  simp only [decodeR]
  interval_cases sel.toNat <;> simp [bind_error_iff, beatOperands_ne_badSelector]

/-- B's selector byte has two bits (R83). -/
theorem decodeB_ne_badSelector {sel : Byte} {bs : List Byte} (h : sel.toNat < 4) :
    decodeB (sel :: bs) ≠ .error .badSelector := by
  simp only [decodeB]
  interval_cases sel.toNat
  · simp
  · simp
  · simp
  · intro h
    obtain h | ⟨⟨r, bs1⟩, -, h⟩ := (bind_error_iff _ _ _).1 h
    · cases field_error h
    · simp only at h
      split at h <;> cases h

/-- Every op of R85 is one of 1 to 8. -/
theorem decodeHost_reservedOp {bw : Nat} {header : Byte} {bs : List Byte}
    (h : header.toNat / 16 = 0 ∨ 9 ≤ header.toNat / 16) :
    decodeHost bw (header :: bs) = .error (.reservedOp (header.toNat / 16)) := by
  simp only [decodeHost]
  split
  case h_9 => rfl
  all_goals omega

theorem decodeHost_reservedId {bw : Nat} {header : Byte} {bs : List Byte}
    (h : header.toNat / 16 = 7 ∨ header.toNat / 16 = 8) (hid : header.toNat % 16 ≠ 0) :
    decodeHost bw (header :: bs) = .error (.reservedId (header.toNat / 16)) := by
  obtain hop | hop := h <;> simp [decodeHost, hop, hid]

/-- Settles O4: by the values of the op, and of the selector byte of each channel. -/
theorem reservedWordsRefusedAndNoPatternIs : Obligations.ReservedWordsRefusedAndNoPatternIs := by
  refine ⟨fun _ _ _ => decodeHost_reservedOp, fun _ _ _ => decodeHost_reservedId, fun s inp => by simp, ?_⟩
  rintro p bw sel bs (rfl | rfl | rfl | rfl | rfl) h
  · rw [decode, decodeAr_eq]
    exact decodeSelector_ne_badSelector h
  · rw [decode, decodeAw_eq]
    exact decodeSelector_ne_badSelector h
  · rw [decode, decodeW_eq]
    exact decodeSelector_ne_badSelector h
  · exact decodeB_ne_badSelector h
  · exact decodeR_ne_badSelector h

/-- Settles O3: each word is short, and the decoder computes on it. -/
theorem sampleWordsDecode : Obligations.SampleWordsDecode := by
  unfold Obligations.SampleWordsDecode
  and_intros <;> decide

/-! ## Rows of the opcode table -/

/-- The first byte of a word lies under the row of its instruction. -/
theorem encode_under_tableRow (i : Instr) : Laws.TableRow.Statement i := by
  cases i with
  | sendRead => exact Laws.TableRow.sendRead _ _ _
  | recvRead => exact Laws.TableRow.recvRead _
  | sendWrite => exact Laws.TableRow.sendWrite _ _ _
  | recvWrite => exact Laws.TableRow.recvWrite _
  | read => exact Laws.TableRow.read _ _ _
  | write => exact Laws.TableRow.write _ _ _
  | init => exact Laws.TableRow.init
  | construct => exact Laws.TableRow.construct _ _
  | arIdle => exact Laws.TableRow.arIdle _
  | arStall => exact Laws.TableRow.arStall
  | arAccept => exact Laws.TableRow.arAccept
  | rNobeatNotReady => exact Laws.TableRow.rNobeatNotReady _ _
  | rNobeatNotValid => exact Laws.TableRow.rNobeatNotValid _
  | rBeat => exact Laws.TableRow.rBeat _ _
  | rLast => exact Laws.TableRow.rLast _ _
  | awIdle => exact Laws.TableRow.awIdle _
  | awStall => exact Laws.TableRow.awStall
  | awAccept => exact Laws.TableRow.awAccept
  | wIdle => exact Laws.TableRow.wIdle _
  | wStall => exact Laws.TableRow.wStall
  | wAccept => exact Laws.TableRow.wAccept
  | bNobeatNotReady => exact Laws.TableRow.bNobeatNotReady _
  | bNobeatNotValid => exact Laws.TableRow.bNobeatNotValid
  | bResp => exact Laws.TableRow.bResp _ _
  | reset => exact Laws.TableRow.reset
  | tick => exact Laws.TableRow.tick _

/-- The rows of a port: what its instructions' rows can be. -/
def rowsOfPort : Port → List (Nat × Nat)
  | .host =>
    [(0x10, 0xF0), (0x20, 0xF0), (0x30, 0xF0), (0x40, 0xF0), (0x50, 0xF0), (0x60, 0xF0), (0x70, 0xFF), (0x80, 0xFF)]
  | .clock => [(0, 1), (1, 1)]
  | .r => [(0, 4), (4, 6), (6, 7), (7, 7)]
  | .ar | .aw | .w | .b => [(0, 2), (2, 3), (3, 3)]

theorem tableRow_mem_rowsOfPort (i : Instr) : tableRow i ∈ rowsOfPort (portOf i) := by
  cases i <;> simp [tableRow, portOf, rowsOfPort]

/-- Two rows of one port ask for different values on a bit that both select. -/
theorem rowsOfPort_disjoint (p : Port) :
    ∀ row ∈ rowsOfPort p, ∀ row' ∈ rowsOfPort p, row.1 &&& row'.2 = row'.1 &&& row.2 → row = row' := by
  cases p <;> decide

/-- A byte under two rows has the values of both on the bits that both select. -/
theorem matches_agree {b m m' v v' : Nat} (h : b &&& m = v) (h' : b &&& m' = v') : v &&& m' = v' &&& m := by
  rw [← h, ← h', Nat.and_assoc, Nat.and_assoc, Nat.and_comm m]

theorem tableRow_unique {i j : Instr} {b : Byte} (hport : portOf i = portOf j)
    (hi : b.toNat &&& (tableRow i).2 = (tableRow i).1) (hj : b.toNat &&& (tableRow j).2 = (tableRow j).1) :
    tableRow i = tableRow j :=
  rowsOfPort_disjoint (portOf i) _ (tableRow_mem_rowsOfPort i) _ (hport ▸ tableRow_mem_rowsOfPort j)
    (matches_agree hi hj)

/-- Settles O56: the bytes of a decoded word are those of its instruction's word, whose first byte lies under its row;
rows of one port differ on a bit that both select. -/
theorem firstByteLiesUnderItsRow : Obligations.FirstByteLiesUnderItsRow := by
  refine ⟨fun bw i => encode_under_tableRow i bw, fun p bw b bs rest i h => ?_, fun i j b => tableRow_unique⟩
  obtain ⟨-, hwf, hword⟩ := decodedWordIsTheWordOfItsInstruction p bw (b :: bs) rest i h
  obtain ⟨b', bs', henc, hrow⟩ := encode_under_tableRow i bw hwf
  rw [henc] at hword
  cases hword
  exact hrow

end Sys2Proof
end

section
/-!
PROOFS. The bus signals and the tables (30_encoding.md R70 to R77, R86): what the block drives fits its signal, and a
beat travels as its words.
-/

namespace Sys2Proof.Machine

/-! ## What is driven -/

/-- The AR registers hold the fields of a request that fits, or zeros. -/
theorem Good.arOutputs_lt {s : State} (hg : Good s) : s.araddr_q < 2 ^ ADDR_W s ∧ s.arlen_q < 2 ^ s.params.len_w := by
  cases hv : s.arvalid_q with
  | true =>
    obtain ⟨h, q, hq, haddr, hlen, -⟩ := hg.arOut.1 hv
    rw [haddr, hlen]
    exact hg.reads h (hq ▸ List.mem_cons_self)
  | false =>
    obtain ⟨haddr, hlen, -⟩ := hg.arOut.2 hv
    simp [haddr, hlen]

/-- The AW registers hold the fields of a request that fits, or zeros. -/
theorem Good.awOutputs_lt {s : State} (hg : Good s) : s.awaddr_q < 2 ^ ADDR_W s ∧ s.awlen_q < 2 ^ s.params.len_w := by
  cases hv : s.awvalid_q with
  | true =>
    obtain ⟨h, q, hq, haddr, hlen, -⟩ := hg.awOut.1 hv
    obtain ⟨hfitsAddr, hfitsLen, -⟩ := hg.writes h (hq ▸ List.mem_cons_self)
    rw [haddr, hlen]
    exact ⟨hfitsAddr, hfitsLen⟩
  | false =>
    obtain ⟨haddr, hlen, -⟩ := hg.awOut.2 hv
    simp [haddr, hlen]

/-- The W register holds a beat of the front burst, or zero. -/
theorem Good.wdata_lt {s : State} (hg : Good s) : s.wdata_q < 2 ^ DW s := by
  cases hv : s.wvalid_q with
  | true =>
    obtain ⟨b, q, hq, hbeat, -⟩ := hg.wOut.1 hv
    obtain ⟨-, -, hbeats⟩ := hg.bursts b (hq ▸ List.mem_cons_self)
    exact hbeats _ (List.mem_of_getElem? hbeat)
  | false => simp [(hg.wOut.2 hv).1]

/-- Settles O52: a flag is one bit and an ID four; the other outputs are registers of AR, AW and W. -/
theorem drivenValuesFitTheirSignals : Obligations.DrivenValuesFitTheirSignals := by
  intro s c sig v hg hc hdriven
  have hflag : ∀ b : Bool, b.toNat < 2 ^ 1 := by decide
  obtain ⟨haraddr, harlen⟩ := hg.arOutputs_lt
  obtain ⟨hawaddr, hawlen⟩ := hg.awOutputs_lt
  have hwdata := hg.wdata_lt
  simp only [ADDR_W, DW, hc] at haraddr hawaddr hwdata
  cases sig <;> cases hdriven
  case araddr => exact haraddr
  case awaddr => exact hawaddr
  case arlen => exact harlen
  case awlen => exact hawlen
  case wdata => exact hwdata
  case arid => exact s.arid_q.isLt
  case awid => exact s.awid_q.isLt
  all_goals exact hflag _

/-! ## The words of a beat -/

theorem pack_narrow {v dw : Nat} (hdw : dw ≤ 64) (hv : v < 2 ^ dw) : pack v dw = some [v] := by
  simp [pack, narrowMax, not_lt.2 hdw, hv]

/-- Word `i` of a wide beat is bits `32 * i` to `32 * i + 31` of its value. -/
theorem pack_wide {v dw : Nat} (hdw : 64 < dw) : ∃ ws, pack v dw = some ws ∧ ws.length = (dw + 31) / 32 ∧
    ∀ i, i < (dw + 31) / 32 → ws[i]? = some (v / 2 ^ (32 * i) % 2 ^ 32) := by
  refine ⟨_, if_pos hdw, by simp [wordsPerBeat], fun i hi => ?_⟩
  simp [wordsPerBeat, hi, packWord_eq]

/-- Above the bits of the bus the value has none. -/
theorem topWord_lt {v dw n : Nat} (hv : v < 2 ^ dw) (hn : n ≤ dw) : v / 2 ^ n % 2 ^ 32 < 2 ^ (dw - n) := by
  refine (Nat.mod_le _ _).trans_lt (Nat.div_lt_of_lt_mul ?_)
  rwa [← pow_add, Nat.add_sub_cancel' hn]

/-- Settles O59: the register holds a value of the bus, which `pack` cuts into words and `unpack` gives back. -/
theorem wdataTravelsAsItsWords : Obligations.WdataTravelsAsItsWords := by
  intro s c hg _ hc
  have hfits := hg.wdata_lt
  simp only [wdataWords]
  simp only [DW, hc] at hfits ⊢
  obtain hdw | hdw := le_or_gt c.data_width_bits 64
  · have hpack := pack_narrow hdw hfits
    exact ⟨_, hpack, unpack_of_pack hpack hfits, fun _ => rfl, fun hwide => by omega⟩
  · obtain ⟨ws, hpack, hlen, hwords⟩ := pack_wide (v := s.wdata_q) hdw
    refine ⟨ws, hpack, unpack_of_pack hpack hfits, fun hnarrow => by omega, fun _ => ⟨hlen, hwords, fun w hw => ?_⟩⟩
    obtain rfl : _ = w := Option.some.inj ((hwords _ (by omega)).symm.trans hw)
    exact topWord_lt hfits (by omega)

/-! ## Codes, names and widths -/

theorem signalTable_complete (c : BusConfig) (p : Params) (sig : Signal) : ∃ row ∈ signalTable c p, row.1 = sig := by
  cases sig <;> simp [signalTable]

/-- Settles O58: the codes are those of the definitions, and the table's rows are those of the names and widths. -/
theorem codesAndSignalNamesAreTheSpecs : Obligations.CodesAndSignalNamesAreTheSpecs := by
  refine ⟨⟨rfl, rfl, rfl, fun _ => ⟨rfl, rfl⟩, fun r => ?_⟩, ⟨rfl, rfl, rfl, rfl, rfl⟩,
    fun c p => ⟨signalTable_complete c p, ?_⟩⟩
  · cases r <;> simp [statusCode]
  · simp [signalTable, signalName, signalBase, signalWidth]

end Sys2Proof.Machine
end

section
/-!
PROOFS. The interface name (30_encoding.md R80). Nothing reads it: every operation commutes with renaming, machine by
machine, and so does a step.
-/

namespace Sys2Proof.Machine

variable {name : String} {s : State}

/-! ## Widths -/

/-- A configuration under another interface name. -/
def renamedConfig (name : String) (c : BusConfig) : BusConfig := { c with interface_name := name }

@[simp] theorem DW_renamed : DW (renamed name s) = DW s := by
  simp only [DW, renamed]
  cases s.cfg <;> rfl

@[simp] theorem beatBytes_renamed : beatBytes (renamed name s) = beatBytes s := by
  simp only [beatBytes, renamed]
  cases s.cfg <;> rfl

@[simp] theorem snapshotWords_renamed (rdata : Nat) : snapshotWords (renamed name s) rdata = snapshotWords s rdata := by
  simp [snapshotWords, fitsBus]

/-! ## The machines -/

/-- A machine's event does the same under another name. -/
def KeepsName (name : String) (event : State → Except Halt State) : Prop :=
  ∀ s, event (renamed name s) = (event s).map (renamed name)

theorem KeepsName.bind {f g : State → Except Halt State} (hf : KeepsName name f) (hg : KeepsName name g) :
    KeepsName name fun s => (f s).bind g := by
  intro s
  simp only [hf s]
  cases f s with
  | error e => rfl
  | ok t => exact hg t

/-- A choice that the name has no part in. -/
theorem KeepsName.ite {c : State → Bool} {f g : State → Except Halt State} (hc : ∀ s, c (renamed name s) = c s)
    (hf : KeepsName name f) (hg : KeepsName name g) : KeepsName name fun s => if c s then f s else g s := by
  intro s
  simp only [hc]
  split
  · exact hf s
  · exact hg s

theorem arDrive_renamed : KeepsName name fun s => .ok (arDrive s) := by
  intro s
  refine congrArg Except.ok ?_
  unfold arDrive
  cases hq : s.ar_queue <;> simp [renamed, hq]

theorem awDrive_renamed : KeepsName name fun s => .ok (awDrive s) := by
  intro s
  refine congrArg Except.ok ?_
  unfold awDrive
  cases hq : s.aw_queue <;> simp [renamed, hq]

theorem arAcceptFront_renamed : KeepsName name arAcceptFront := by
  intro s
  unfold arAcceptFront
  cases hq : s.ar_queue <;> simp [renamed, hq, pushPending, Except.map]

theorem awAcceptFront_renamed : KeepsName name awAcceptFront := by
  intro s
  unfold awAcceptFront
  simp only [beatBytes_renamed]
  cases hq : s.aw_queue <;> simp [renamed, hq, pushPending, Except.map]

theorem wDrive_renamed : KeepsName name wDrive := by
  intro s
  unfold wDrive
  simp only [DW_renamed]
  cases hq : s.w_queue with
  | nil => simp [renamed, hq, Except.map]
  | cons b q =>
    cases hv : b.beats[s.w_idx]? with
    | none => simp [renamed, hq, hv, Except.map]
    | some v => cases hp : pack v (DW s) <;> simp [renamed, hq, hv, hp, Except.map]

theorem wAdvance_renamed : KeepsName name wAdvance := by
  intro s
  unfold wAdvance
  cases hq : s.w_queue with
  | nil => simp [renamed, hq, Except.map]
  | cons b q => by_cases hl : s.w_idx + 1 = b.beats.length <;> simp [renamed, hq, hl, Except.map]

theorem rDriveReady_renamed : KeepsName name fun s => .ok (rDriveReady s) := fun _ => rfl

theorem bDriveReady_renamed : KeepsName name fun s => .ok (bDriveReady s) := fun _ => rfl

theorem rCollect_renamed (rid : TxnId) (words : List Nat) : KeepsName name (rCollect rid words) := by
  intro s
  unfold rCollect
  simp only [DW_renamed]
  change (if s.r_burst_data = [] then if hasPending .read rid s then _ else _
    else if rid = s.r_burst_id then _ else _) = _
  split_ifs <;> rfl

theorem rPublish_renamed : KeepsName name rPublish := by
  intro s
  have hfront : frontPending .read (renamed name s).r_burst_id (renamed name s) =
      frontPending .read s.r_burst_id s := rfl
  simp only [rPublish, hfront]
  cases frontPending .read s.r_burst_id s with
  | none => rfl
  | some n =>
    dsimp only
    change (if n = s.r_burst_data.length then _ else _) = _
    split_ifs <;> rfl

theorem bRespond_renamed (bid : TxnId) (bresp : BitVec 2) : KeepsName name (bRespond bid bresp) := by
  intro s
  unfold bRespond
  change (if !hasPending .write bid s then _ else if s.params.enforce_okay && bresp != 0 then _ else _) = _
  split_ifs <;> rfl

theorem arStep_renamed (inp : Inputs) : KeepsName name (arStep inp) :=
  .ite (c := (arAccepted · inp)) (fun _ => rfl) (.bind arAcceptFront_renamed arDrive_renamed) arDrive_renamed

theorem awStep_renamed (inp : Inputs) : KeepsName name (awStep inp) :=
  .ite (c := (awAccepted · inp)) (fun _ => rfl) (.bind awAcceptFront_renamed awDrive_renamed) awDrive_renamed

theorem wStep_renamed (inp : Inputs) : KeepsName name (wStep inp) :=
  .ite (c := (wAccepted · inp)) (fun _ => rfl) (.bind wAdvance_renamed wDrive_renamed) wDrive_renamed

theorem rStep_renamed (inp : Inputs) (words : List Nat) : KeepsName name (rStep inp words) :=
  .ite (c := (rAccepted · inp)) (fun _ => rfl)
    (.bind (rCollect_renamed inp.rid words)
      (.ite (c := fun _ => inp.rlast) (fun _ => rfl) (.bind rPublish_renamed rDriveReady_renamed) rDriveReady_renamed))
    rDriveReady_renamed

theorem bStep_renamed (inp : Inputs) : KeepsName name (bStep inp) :=
  .ite (c := (bAccepted · inp)) (fun _ => rfl) (.bind (bRespond_renamed inp.bid inp.bresp) bDriveReady_renamed)
    bDriveReady_renamed

theorem tickMachines_renamed (inp : Inputs) (words : List Nat) : KeepsName name (tickMachines inp words) :=
  have har := arStep_renamed inp
  have haw := awStep_renamed inp
  have hr := rStep_renamed inp words
  have hb := bStep_renamed inp
  have hw := wStep_renamed inp
  .ite (c := fun s => s.params.same_tick_visible) (fun _ => rfl)
    (har.bind (haw.bind (hr.bind (hb.bind hw)))) (hr.bind (hb.bind (hw.bind (har.bind haw))))

/-! ## Events -/

/-- The outcome with the next state under another name. -/
def renamedResult (name : String) : Result → Result
  | .next t => .next (renamed name t)
  | .fault f => .fault f
  | .refused r => .refused r

theorem settle_renamed (r : Except Halt State) :
    settle (renamed name s) (r.map (renamed name)) = renamedResult name (settle s r) := by
  cases r with
  | ok t => rfl
  | error h => cases h <;> rfl

theorem channelEvent_renamed {event : State → Except Halt State} (hevent : KeepsName name event) (selected : Bool) :
    channelEvent selected event (renamed name s) = renamedResult name (channelEvent selected event s) := by
  have hrunning : running (renamed name s) = running s := rfl
  simp only [channelEvent, hrunning, hevent s, settle_renamed]
  split_ifs <;> rfl

theorem dataEvent_renamed {event : List Nat → State → Except Halt State}
    (hevent : ∀ words, KeepsName name (event words)) (selected : Bool) (rdata : Nat) :
    dataEvent selected rdata event (renamed name s) = renamedResult name (dataEvent selected rdata event s) := by
  have hrunning : running (renamed name s) = running s := rfl
  simp only [dataEvent, hrunning, snapshotWords_renamed]
  split_ifs
  · rfl
  · cases snapshotWords s rdata with
    | none => rfl
    | some words => exact channelEvent_renamed (hevent words) selected

/-! ## Commands and the clock -/

theorem takeCompletedRead_renamed (k : TxnId) :
    takeCompletedRead k (renamed name s) = (takeCompletedRead k s).map (Prod.map id (renamed name)) := by
  obtain ⟨hnil, h⟩ | ⟨burst, later, hfront, h⟩ := takeCompletedRead_cases k s
  · rw [h]
    simp [takeCompletedRead, renamed, hnil]
  · rw [h]
    simp [takeCompletedRead, renamed, hfront]

theorem takeCompletedWrite_renamed (k : TxnId) :
    takeCompletedWrite k (renamed name s) = (takeCompletedWrite k s).map (Prod.map id (renamed name)) := by
  obtain ⟨hnil, h⟩ | ⟨code, later, hfront, h⟩ := takeCompletedWrite_cases k s
  · rw [h]
    simp [takeCompletedWrite, renamed, hnil]
  · rw [h]
    simp [takeCompletedWrite, renamed, hfront]

theorem pollWaiting_renamed : pollWaiting (renamed name s) = renamed name (pollWaiting s) := by
  have hwaiting : (renamed name s).waiting = s.waiting := rfl
  simp only [pollWaiting, hwaiting, takeCompletedRead_renamed, takeCompletedWrite_renamed]
  cases s.waiting with
  | none => rfl
  | some w =>
    cases w with
    | read k =>
      dsimp only
      cases takeCompletedRead k s <;> rfl
    | write k =>
      dsimp only
      cases takeCompletedWrite k s <;> rfl

theorem startWaiting_renamed (w : Waiting) : startWaiting w (renamed name s) = renamed name (startWaiting w s) := by
  unfold startWaiting
  change (if s.params.poll_first then pollWaiting (renamed name { s with waiting := some w, reply := none }) else _) = _
  rw [pollWaiting_renamed]
  split_ifs <;> rfl

theorem onInstance_renamed {cmd cmd' : BusConfig → Result}
    (hcmd : ∀ c, cmd' (renamedConfig name c) = renamedResult name (cmd c)) :
    onInstance (renamed name s) cmd' = renamedResult name (onInstance s cmd) := by
  have hgate : commandGate (renamed name s) = commandGate s := rfl
  have hcfg : (renamed name s).cfg = s.cfg.map (renamedConfig name) := rfl
  simp only [onInstance, hgate, hcfg]
  cases commandGate s with
  | some r => rfl
  | none =>
    cases s.cfg with
    | none => rfl
    | some c => exact hcmd c

theorem checkRead_renamed (c : BusConfig) (addr len id : Nat) :
    checkRead (renamed name s) (renamedConfig name c) addr len id = checkRead s c addr len id := rfl

theorem checkWrite_renamed (c : BusConfig) (addr id : Nat) (data : List Nat) :
    checkWrite (renamed name s) (renamedConfig name c) addr data id = checkWrite s c addr data id := rfl

theorem transactionDomain_renamed (id : Nat) : transactionDomain (renamed name s) id = transactionDomain s id := rfl

theorem execSendRead_renamed (addr len id : Nat) :
    execSendRead addr len id (renamed name s) = renamedResult name (execSendRead addr len id s) :=
  onInstance_renamed fun c => by
    rw [checkRead_renamed]
    cases checkRead s c addr len id <;> rfl

theorem execSendWrite_renamed (addr id : Nat) (data : List Nat) :
    execSendWrite addr data id (renamed name s) = renamedResult name (execSendWrite addr data id s) :=
  onInstance_renamed fun c => by
    rw [checkWrite_renamed]
    cases checkWrite s c addr data id <;> rfl

theorem execRead_renamed (addr len id : Nat) :
    execRead addr len id (renamed name s) = renamedResult name (execRead addr len id s) :=
  onInstance_renamed fun c => by
    rw [checkRead_renamed]
    cases checkRead s c addr len id with
    | request req =>
      exact congrArg Host.Outcome.next
        (startWaiting_renamed (s := { s with ar_queue := s.ar_queue ++ [req] }) (.read req.id))
    | invalid | outside => rfl

theorem execWrite_renamed (addr id : Nat) (data : List Nat) :
    execWrite addr data id (renamed name s) = renamedResult name (execWrite addr data id s) :=
  onInstance_renamed fun c => by
    rw [checkWrite_renamed]
    cases checkWrite s c addr data id with
    | request req =>
      exact congrArg Host.Outcome.next
        (startWaiting_renamed (s := { s with aw_queue := s.aw_queue ++ [req] }) (.write req.id))
    | invalid | outside => rfl

theorem execRecvRead_renamed (id : Nat) :
    execRecvRead id (renamed name s) = renamedResult name (execRecvRead id s) :=
  onInstance_renamed fun c => by
    rw [transactionDomain_renamed]
    cases transactionDomain s id with
    | error r => rfl
    | ok k =>
      simp only [takeCompletedRead_renamed]
      cases takeCompletedRead k s <;> rfl

theorem execRecvWrite_renamed (id : Nat) :
    execRecvWrite id (renamed name s) = renamedResult name (execRecvWrite id s) :=
  onInstance_renamed fun c => by
    rw [transactionDomain_renamed]
    cases transactionDomain s id with
    | error r => rfl
    | ok k =>
      simp only [takeCompletedWrite_renamed]
      cases takeCompletedWrite k s <;> rfl

theorem execInit_renamed : execInit (renamed name s) = renamedResult name (execInit s) :=
  onInstance_renamed fun c => by
    change (if s.started then _ else _) = _
    split_ifs <;> rfl

/-- CONSTRUCT takes the name given out of band, which renaming changes too. -/
theorem execConstruct_renamed (dwBits awBits : Nat) :
    execConstruct dwBits awBits (renamed name s) = renamedResult name (execConstruct dwBits awBits s) := by
  have hgate : commandGate (renamed name s) = commandGate s := rfl
  have hwf : ∀ c, configWellFormed (renamedConfig name c) = configWellFormed c := fun _ => rfl
  simp only [execConstruct, hgate]
  cases commandGate s with
  | some r => rfl
  | none =>
    change (if configWellFormed ⟨s.iface_strap, dwBits, awBits⟩ then _ else _) = _
    split_ifs <;> rfl

theorem execTick_renamed (inp : Inputs) : execTick inp (renamed name s) = renamedResult name (execTick inp s) := by
  have hrunning : running (renamed name s) = running s := rfl
  simp only [execTick, hrunning, snapshotWords_renamed, tickMachines_renamed inp _ s]
  split_ifs
  · rfl
  · cases snapshotWords s inp.rdata with
    | none => rfl
    | some words =>
      dsimp only
      cases tickMachines inp words s with
      | ok t => exact congrArg Host.Outcome.next pollWaiting_renamed
      | error h => exact settle_renamed (.error h)

/-- Every operation is the same under another name. -/
theorem exec_renamed (i : Instr) : exec i (renamed name s) = renamedResult name (exec i s) := by
  cases i with
  | sendRead addr len id => exact execSendRead_renamed addr len id
  | recvRead id => exact execRecvRead_renamed id
  | sendWrite addr data id => exact execSendWrite_renamed addr id data
  | recvWrite id => exact execRecvWrite_renamed id
  | read addr len id => exact execRead_renamed addr len id
  | write addr data id => exact execWrite_renamed addr id data
  | init => exact execInit_renamed
  | construct dwBits awBits => exact execConstruct_renamed dwBits awBits
  | arIdle | arStall => exact channelEvent_renamed arDrive_renamed _
  | arAccept => exact channelEvent_renamed (arAcceptFront_renamed.bind arDrive_renamed) _
  | rNobeatNotReady | rNobeatNotValid => exact channelEvent_renamed rDriveReady_renamed _
  | rBeat rid rdata =>
    exact dataEvent_renamed (fun words => (rCollect_renamed rid words).bind rDriveReady_renamed) _ rdata
  | rLast rid rdata =>
    exact dataEvent_renamed
      (fun words => (rCollect_renamed rid words).bind (rPublish_renamed.bind rDriveReady_renamed)) _ rdata
  | awIdle | awStall => exact channelEvent_renamed awDrive_renamed _
  | awAccept => exact channelEvent_renamed (awAcceptFront_renamed.bind awDrive_renamed) _
  | wIdle | wStall => exact channelEvent_renamed wDrive_renamed _
  | wAccept => exact channelEvent_renamed (wAdvance_renamed.bind wDrive_renamed) _
  | bNobeatNotReady | bNobeatNotValid => exact channelEvent_renamed bDriveReady_renamed _
  | bResp bid bresp => exact channelEvent_renamed ((bRespond_renamed bid bresp).bind bDriveReady_renamed) _
  | reset => rfl
  | tick inp => exact execTick_renamed inp

/-- What is presented is read with the width of the bus, which has no name in it. -/
theorem fetch_renamed : fetch (renamed name s) = (fetch s).map (Prod.map id (renamed name)) := by
  unfold fetch
  simp only [beatBytes_renamed]
  cases hs : s.stimuli with
  | nil => simp [renamed, hs, Except.map]
  | cons st later => cases hd : decode st.port (beatBytes s) st.bytes <;> simp [renamed, hs, hd, Except.map]

theorem step_renamed : step (renamed name s) = renamedResult name (step s) := by
  simp only [step, fetch_renamed]
  cases fetch s with
  | error r => rfl
  | ok p => exact exec_renamed p.1

/-- Settles O49: the step under another name is the renamed step, whether or not it records a violation. -/
theorem interfaceNameChangesNoBehaviour : Obligations.InterfaceNameChangesNoBehaviour := by
  intro s name
  refine .inl (step_renamed.trans ?_)
  cases step s <;> rfl

end Sys2Proof.Machine
end

section
/-!
PROOFS. The word codec (40_word_codec.md): on words of 32 bits the OR of shifted words is the number of which they are
the digits in base `2 ^ 32`, so the library's facts about digits say which word stands at which bits.
-/

namespace Sys2Proof.Machine

/-- Settles O6: the two branches of R102. -/
theorem packSplitsIntoWords : Obligations.PackSplitsIntoWords :=
  fun _ _ => ⟨pack_narrow, pack_wide⟩

/-- The OR of shifted words is the number whose digits they are: each word lies below the bits of the next. -/
theorem orWords_eq_ofDigits (ws : List Nat) (i : Nat) (hws : ∀ w ∈ ws, w < 2 ^ 32) :
    orWords i ws = Nat.ofDigits (2 ^ 32) ws <<< (32 * i) := by
  induction ws generalizing i with
  | nil => simp [orWords]
  | cons w ws ih =>
    obtain ⟨hw, hrest⟩ := List.forall_mem_cons.1 hws
    have hplace : Nat.ofDigits (2 ^ 32) (w :: ws) = Nat.ofDigits (2 ^ 32) ws <<< 32 ||| w := by
      rw [← Nat.shiftLeft_add_eq_or_of_lt hw, Nat.ofDigits_cons, Nat.shiftLeft_eq, Nat.mul_comm, Nat.add_comm]
    calc orWords i (w :: ws) = w <<< (32 * i) ||| Nat.ofDigits (2 ^ 32) ws <<< (32 * (i + 1)) := by
          rw [orWords, ih _ hrest]
      _ = Nat.ofDigits (2 ^ 32) (w :: ws) <<< (32 * i) := by
          rw [hplace, Nat.shiftLeft_or_distrib, ← Nat.shiftLeft_add, Nat.mul_succ, Nat.add_comm 32, Nat.or_comm]

/-- The bits of word `i` in the OR of shifted words are the word itself. -/
theorem orWords_bits {ws : List Nat} {i : Nat} (hi : i < ws.length) (hws : ∀ w ∈ ws, w < 2 ^ 32) :
    orWords 0 ws / 2 ^ (32 * i) % 2 ^ 32 = ws[i] := by
  rw [orWords_eq_ofDigits ws 0 hws, Nat.mul_zero, Nat.shiftLeft_zero, pow_mul,
    Nat.ofDigits_div_pow_eq_ofDigits_drop i (by norm_num) ws hws, List.drop_eq_getElem_cons hi, Nat.ofDigits_cons,
    Nat.add_mul_mod_self_left, Nat.mod_eq_of_lt (hws _ (List.getElem_mem hi))]

/-- The round trip of R104: a value that fits the bus has words, and they unpack to it. -/
theorem exists_pack_unpack {v dw : Nat} (hv : v < 2 ^ dw) : ∃ ws, pack v dw = some ws ∧ unpack ws dw = v := by
  obtain hdw | hdw := le_or_gt dw 64
  · exact ⟨_, pack_narrow hdw hv, unpack_of_pack (pack_narrow hdw hv) hv⟩
  · obtain ⟨ws, hpack, -⟩ := pack_wide (v := v) hdw
    exact ⟨ws, hpack, unpack_of_pack hpack hv⟩

theorem pack_unpack_narrow {ws : List Nat} {dw : Nat} (hdw : dw ≤ 64) (hlen : ws.length = 1)
    (hws : ∀ w ∈ ws, w < 2 ^ dw) : pack (unpack ws dw) dw = some ws := by
  obtain ⟨w, rfl⟩ := List.length_eq_one_iff.1 hlen
  have hunpack : unpack [w] dw = w := if_pos hdw
  rw [hunpack, pack_narrow hdw (hws w (List.mem_singleton_self w))]

/-- The words of the unpacked value are, place by place, those it was made of. -/
theorem pack_unpack_wide {ws : List Nat} {dw : Nat} (hdw : 64 < dw) (hlen : ws.length = (dw + 31) / 32)
    (hws : ∀ w ∈ ws, w < 2 ^ 32) : pack (unpack ws dw) dw = some ws := by
  have hunpack : unpack ws dw = orWords 0 ws := if_neg hdw.not_ge
  obtain ⟨ws', hpack, hlen', hwords⟩ := pack_wide (v := orWords 0 ws) hdw
  rw [hunpack, hpack, Option.some_inj]
  refine List.ext_getElem (hlen'.trans hlen.symm) fun i hi' hi => ?_
  have hword := hwords i (hlen ▸ hi)
  rw [orWords_bits hi hws] at hword
  exact (List.getElem_eq_iff hi').2 hword

/-- Outside its domain the narrow `pack` has no result (R105; U2). -/
theorem pack_eq_none {v dw : Nat} (hdw : dw ≤ 64) (hv : 2 ^ dw ≤ v) : pack v dw = none := by
  simp [pack, narrowMax, hdw.not_gt, hv.not_gt]

/-- Settles O7: R104 in both directions, and the refusal of what does not fit a narrow bus. -/
theorem unpackInvertsPack : Obligations.UnpackInvertsPack :=
  ⟨fun _ _ => exists_pack_unpack, fun _ _ => pack_unpack_narrow, fun _ _ => pack_unpack_wide, fun _ _ => pack_eq_none⟩

end Sys2Proof.Machine
end

section
/-!
PROOFS. The transaction ledger (41_ledger.md R110 to R116): an operation on slot `k` of a side touches that slot of that
side only, and the read and the write machines do not touch each other's side.
-/

namespace Sys2Proof.Machine

/-! ## The sides -/

/-- Settles O47: each effect of a channel event is the step of its machine, which writes items of its own side only. -/
theorem readAndWriteSidesAreSeparate : Obligations.ReadAndWriteSidesAreSeparate := by
  intro i s t h hfault
  cases exec_effect h with
  | idle => simp
  | raise => cases hfault
  | ar inp runs done =>
    obtain ⟨q, p, v, a, l, i, rfl⟩ := arStep_writes done
    simp
  | r inp words runs presented done =>
    obtain ⟨p, c, d, i, rfl⟩ := rStep_writes done
    simp
  | aw inp runs done =>
    obtain ⟨q, p, w, v, a, l, i, rfl⟩ := awStep_writes done
    simp
  | w inp runs done =>
    obtain ⟨q, n, v, d, l, rfl⟩ := wStep_writes done
    simp
  | b inp runs done =>
    obtain ⟨p, c, rfl⟩ := bStep_writes done
    simp
  | decline reply host => simp [host]
  | tick | reset | construct | init | sendRead | read | sendWrite | write | recvRead | recvWrite => simp [portOf]

/-! ## Slots -/

section
variable {α : Type} (v : Slots (List α)) (k : TxnId)

theorem pushSlot_same (x : α) : (pushSlot v k x)[k] = v[k] ++ [x] := setSlot_same v k _

theorem pushSlot_other {j : TxnId} (h : j ≠ k) (x : α) : (pushSlot v k x)[j] = v[j] := setSlot_other v k j _ h

theorem popSlot_other {j : TxnId} (h : j ≠ k) : (popSlot v k)[j] = v[j] := setSlot_other v k j _ h

variable {v k}

/-- Popping the front item leaves the later ones in the slot. -/
theorem popSlot_of_cons {x : α} {xs : List α} (h : v[k] = x :: xs) : popSlot v k = setSlot v k xs := by
  simp only [popSlot, h, List.tail_cons]

end

/-! ## The pending arrays -/

section
variable {side other : Side} (k : TxnId) (n : Nat) (s : State)

theorem pendingOf_pushPending_same :
    pendingOf side (pushPending side k n s) = pushSlot (pendingOf side s) k n := by
  cases side <;> rfl

theorem pendingOf_popPending_same : pendingOf side (popPending side k s) = popSlot (pendingOf side s) k := by
  cases side <;> rfl

theorem pendingOf_pushPending_other (h : other ≠ side) :
    pendingOf other (pushPending side k n s) = pendingOf other s := by
  cases side <;> cases other <;> simp [pendingOf] at h ⊢

theorem pendingOf_popPending_other (h : other ≠ side) : pendingOf other (popPending side k s) = pendingOf other s := by
  cases side <;> cases other <;> simp [pendingOf] at h ⊢

end

/-- Settles O8: a push on a side is a push on a slot of its array. -/
theorem pushPendingAppendsToItsSlot : Obligations.PushPendingAppendsToItsSlot := by
  intro side k n s
  rw [pendingOf_pushPending_same]
  exact ⟨pushSlot_same _ k n, fun j hj => pushSlot_other _ k hj n, fun other => pendingOf_pushPending_other k n s⟩

/-- Settles O9: a pop on a side is a pop on a slot of its array. -/
theorem popPendingRemovesTheOldest : Obligations.PopPendingRemovesTheOldest := by
  intro side k n ns s hslot
  have hfront : frontPending side k s = some n := by simp only [frontPending, hslot, List.head?_cons]
  rw [pendingOf_popPending_same]
  refine ⟨hfront, ?_, fun j hj => popSlot_other _ k hj, fun other => pendingOf_popPending_other k s⟩
  rw [popSlot_of_cons hslot, setSlot_same]

/-! ## The completed arrays -/

theorem takeCompletedRead_of_nil {k : TxnId} {s : State} (h : s.rd_completed[k] = []) :
    takeCompletedRead k s = none := by
  simp only [takeCompletedRead, h]

theorem takeCompletedWrite_of_nil {k : TxnId} {s : State} (h : s.wr_completed[k] = []) :
    takeCompletedWrite k s = none := by
  simp only [takeCompletedWrite, h]

theorem takeCompletedRead_of_cons {k : TxnId} {s : State} {burst : List Nat} {bursts : List (List Nat)}
    (h : s.rd_completed[k] = burst :: bursts) :
    takeCompletedRead k s = some (burst, { s with rd_completed := setSlot s.rd_completed k bursts }) := by
  simp only [takeCompletedRead, popSlot_of_cons h, h]

theorem takeCompletedWrite_of_cons {k : TxnId} {s : State} {code : Nat} {codes : List Nat}
    (h : s.wr_completed[k] = code :: codes) :
    takeCompletedWrite k s = some (code, { s with wr_completed := setSlot s.wr_completed k codes }) := by
  simp only [takeCompletedWrite, popSlot_of_cons h, h]

/-- Settles O55: by whether the slot is empty, on either side. -/
theorem takeCompletedReturnsTheFront : Obligations.TakeCompletedReturnsTheFront :=
  fun _ _ => ⟨takeCompletedRead_of_nil, fun _ _ => takeCompletedRead_of_cons,
    takeCompletedWrite_of_nil, fun _ _ => takeCompletedWrite_of_cons⟩

end Sys2Proof.Machine
end

section
/-!
PROOFS. The read address channel driver (42_read_address_channel.md R120 to R127): the drive by whether a request is
queued, and each of the three events as the drive, after the pop of an acceptance.
-/

namespace Sys2Proof.Machine

/-- A selected event of a running machine that completes is the whole step. -/
theorem channelEvent_of_ok {sel : Bool} {event : State → Except Halt State} {s t : State} (hrun : running s = true)
    (hsel : sel = true) (hdone : event s = .ok t) : channelEvent sel event s = .next t := by
  simp [channelEvent, hrun, hsel, hdone, settle]

/-! ## The drive (R121) -/

section
variable {s : State} {h : PendingRequest} {q : List PendingRequest}

theorem arDrive_of_nil (hq : s.ar_queue = []) :
    arDrive s = { s with arvalid_q := false, araddr_q := 0, arlen_q := 0, arid_q := 0 } := by
  simp only [arDrive, hq]

theorem arDrive_of_cons (hq : s.ar_queue = h :: q) :
    arDrive s =
      { s with arvalid_q := true, araddr_q := h.address, arlen_q := h.burst_len_minus1, arid_q := h.id } := by
  simp only [arDrive, hq]

/-- In REQUEST the drive writes the values that the registers already have (10_state.md R43 (a)). -/
theorem arDrive_of_arOutputs (hout : arOutputs s) (hvalid : s.arvalid_q = true) : arDrive s = s := by
  obtain ⟨h, q, hq, haddr, hlen, hid⟩ := hout.1 hvalid
  rw [arDrive_of_cons hq, ← hvalid, ← haddr, ← hlen, ← hid]

/-! ## The events -/

/-- AR.IDLE is the drive (R123), whatever the peer's ready. -/
theorem exec_arIdle (arready : Bool) (hrun : running s = true) (hvalid : s.arvalid_q = false) :
    exec (.arIdle arready) s = .next (arDrive s) := by
  change execArIdle arready s = _
  exact channelEvent_of_ok hrun (by rw [hvalid, Bool.not_false]) rfl

/-- AR.STALL is the drive (R124). -/
theorem exec_arStall (hrun : running s = true) (hvalid : s.arvalid_q = true) : exec .arStall s = .next (arDrive s) := by
  change execArStall s = _
  exact channelEvent_of_ok hrun hvalid rfl

theorem arAcceptFront_of_cons (hq : s.ar_queue = h :: q) :
    arAcceptFront s = .ok (pushPending .read h.id (beatCount h.burst_len_minus1) { s with ar_queue := q }) := by
  simp only [arAcceptFront, hq]

/-- AR.ACCEPT moves the front request's beat count to the ledger and then drives (R125). -/
theorem exec_arAccept_of_cons (hrun : running s = true) (hvalid : s.arvalid_q = true) (hq : s.ar_queue = h :: q) :
    exec .arAccept s =
      .next (arDrive (pushPending .read h.id (beatCount h.burst_len_minus1) { s with ar_queue := q })) := by
  change execArAccept s = _
  exact channelEvent_of_ok hrun hvalid (by rw [arAcceptFront_of_cons hq]; rfl)

end

/-- Settles O10: the event is the drive, by whether a request is queued. -/
theorem arIdleDrivesTheFrontRequest : Obligations.ArIdleDrivesTheFrontRequest := by
  intro s arready hstarted hnone hvalid
  rw [exec_arIdle arready ((running_iff s).2 ⟨hstarted, hnone⟩) hvalid]
  exact ⟨fun hq => congrArg _ (arDrive_of_nil hq), fun h q hq => congrArg _ (arDrive_of_cons hq)⟩

/-- Settles O11: the event is the drive of the front request, whose values stand in the registers already. -/
theorem arStallHoldsTheRequest : Obligations.ArStallHoldsTheRequest := by
  intro s h q hstarted hnone hvalid hq
  rw [exec_arStall ((running_iff s).2 ⟨hstarted, hnone⟩) hvalid]
  exact ⟨congrArg _ (arDrive_of_cons hq), fun hout => congrArg _ (arDrive_of_arOutputs hout hvalid)⟩

/-- Settles O12: the event is the acceptance and then the drive of what is left in the queue. -/
theorem arAcceptRecordsTheRequestAndDrivesTheNext : Obligations.ArAcceptRecordsTheRequestAndDrivesTheNext := by
  intro s h q hstarted hnone hvalid hq
  rw [exec_arAccept_of_cons ((running_iff s).2 ⟨hstarted, hnone⟩) hvalid hq]
  constructor
  · rintro rfl
    exact congrArg _ (arDrive_of_nil rfl)
  · rintro h2 q2 rfl
    exact congrArg _ (arDrive_of_cons rfl)

end Sys2Proof.Machine
end

section
/-!
PROOFS. The read data channel collector (43_read_data_channel.md R130 to R135). R.BEAT and R.LAST are one event that
collects the beat and then finishes, so the collect step with its two checks is settled once for both; R.LAST's finish
is the length check with the publication.
-/

namespace Sys2Proof.Machine

/-- A selected data event of a running machine is the event on words that stand for the value on the wires
(40_word_codec.md R106). -/
theorem dataEvent_eq_settle {sel : Bool} {rdata : Nat} {s : State} (event : List Nat → State → Except Halt State)
    (hrun : running s = true) (hsel : sel = true) (hfits : rdata < 2 ^ DW s) :
    ∃ words, unpack words (DW s) = rdata ∧ dataEvent sel rdata event s = settle s (event words s) := by
  obtain ⟨words, hpack, hunpack⟩ := exists_pack_unpack hfits
  exact ⟨words, hunpack, by simp [dataEvent, channelEvent, hrun, hsel, snapshotWords_of_lt hfits, hpack]⟩

/-! ## The collect step (R134): a first beat needs an outstanding read, a later beat the ID of the first -/

/-- The state after a beat of value `v` that passes the check. -/
def withBeat (rid : TxnId) (v : Nat) (s : State) : State :=
  { s with r_burst_id := rid, r_burst_data := s.r_burst_data ++ [v] }

section
variable {rid : TxnId} {words : List Nat} {s : State}

theorem rCollect_of_passes (hfirst : s.r_burst_data = [] → s.rd_pending[rid] ≠ [])
    (hlater : s.r_burst_data ≠ [] → rid = s.r_burst_id) :
    rCollect rid words s = .ok (withBeat rid (unpack words (DW s)) s) := by
  by_cases hd : s.r_burst_data = []
  · have hpending : hasPending .read rid s = true := by simpa [hasPending, pendingOf] using hfirst hd
    simp [rCollect, withBeat, hd, hpending]
  · simp [rCollect, withBeat, hd, hlater hd]

theorem rCollect_of_noOutstanding (hfirst : s.r_burst_data = []) (hpending : s.rd_pending[rid] = []) :
    rCollect rid words s =
      .error (.violation { cause := .RD_NO_OUTSTANDING, id := rid, expected := 0, got := 0 }) := by
  simp [rCollect, hasPending, pendingOf, hfirst, hpending]

theorem rCollect_of_idChanged (hlater : s.r_burst_data ≠ []) (hid : rid ≠ s.r_burst_id) :
    rCollect rid words s =
      .error (.violation { cause := .RD_ID_CHANGED, id := rid, expected := s.r_burst_id.val, got := rid.val }) := by
  simp [rCollect, hlater, hid]

end

/-! ## The publication (R135) -/

section
variable {s : State} {n : Nat} {ns : List Nat}

theorem rPublish_of_length (hslot : s.rd_pending[s.r_burst_id] = n :: ns) (hn : n = s.r_burst_data.length) :
    rPublish s = .ok { s with
      rd_completed := pushSlot s.rd_completed s.r_burst_id s.r_burst_data
      rd_pending := setSlot s.rd_pending s.r_burst_id ns
      r_burst_data := [] } := by
  simp [rPublish, frontPending, pendingOf, popPending, pushCompletedRead, popSlot_of_cons hslot, hslot, hn]

theorem rPublish_of_otherLength (hslot : s.rd_pending[s.r_burst_id] = n :: ns) (hn : n ≠ s.r_burst_data.length) :
    rPublish s = .error (.violation
      { cause := .RD_LENGTH_MISMATCH, id := s.r_burst_id, expected := n, got := s.r_burst_data.length }) := by
  simp [rPublish, frontPending, pendingOf, hslot, hn]

end

/-! ## The events that accept a beat -/

/-- What R.BEAT and R.LAST have in common: the collect step and then `finish`. -/
def collectEvent (rid : TxnId) (rdata : Nat) (finish : State → Except Halt State) (s : State) : Result :=
  dataEvent s.rready_q rdata (fun words s => (rCollect rid words s).bind finish) s

theorem exec_rBeat (rid : TxnId) (rdata : Nat) (s : State) :
    exec (.rBeat rid rdata) s = collectEvent rid rdata (fun t => .ok (rDriveReady t)) s := rfl

theorem exec_rLast (rid : TxnId) (rdata : Nat) (s : State) :
    exec (.rLast rid rdata) s = collectEvent rid rdata (fun t => (rPublish t).bind fun u => .ok (rDriveReady u)) s :=
  rfl

section
variable {rid : TxnId} {rdata : Nat} {s : State} (finish : State → Except Halt State)
  (hrun : running s = true) (hready : s.rready_q = true) (hfits : rdata < 2 ^ DW s)
include hrun hready hfits

theorem collectEvent_eq_settle : ∃ words, unpack words (DW s) = rdata ∧
    collectEvent rid rdata finish s = settle s ((rCollect rid words s).bind finish) :=
  dataEvent_eq_settle (fun words s => (rCollect rid words s).bind finish) hrun hready hfits

theorem collectEvent_of_passes (hfirst : s.r_burst_data = [] → s.rd_pending[rid] ≠ [])
    (hlater : s.r_burst_data ≠ [] → rid = s.r_burst_id) :
    collectEvent rid rdata finish s = settle s (finish (withBeat rid rdata s)) := by
  obtain ⟨words, rfl, hevent⟩ := collectEvent_eq_settle (rid := rid) finish hrun hready hfits
  rwa [rCollect_of_passes hfirst hlater] at hevent

theorem collectEvent_of_noOutstanding (hfirst : s.r_burst_data = []) (hpending : s.rd_pending[rid] = []) :
    ∃ t, collectEvent rid rdata finish s = .next t ∧
      t.fault = some { cause := .RD_NO_OUTSTANDING, id := rid, expected := 0, got := 0 } := by
  obtain ⟨words, -, hevent⟩ := collectEvent_eq_settle (rid := rid) finish hrun hready hfits
  rw [rCollect_of_noOutstanding hfirst hpending] at hevent
  exact ⟨_, hevent, takeViolation_fault _ s⟩

theorem collectEvent_of_idChanged (hlater : s.r_burst_data ≠ []) (hid : rid ≠ s.r_burst_id) :
    ∃ t, collectEvent rid rdata finish s = .next t ∧
      t.fault = some { cause := .RD_ID_CHANGED, id := rid, expected := s.r_burst_id.val, got := rid.val } := by
  obtain ⟨words, -, hevent⟩ := collectEvent_eq_settle (rid := rid) finish hrun hready hfits
  rw [rCollect_of_idChanged hlater hid] at hevent
  exact ⟨_, hevent, takeViolation_fault _ s⟩

end

/-- Settles O14: the four cases of the collect step, the ready drive following where it collects. -/
theorem rBeatCollectsOrRaises : Obligations.RBeatCollectsOrRaises := by
  intro s rid rdata hstarted hnone hready hfits
  have hrun := (running_iff s).2 ⟨hstarted, hnone⟩
  rw [exec_rBeat]
  refine ⟨fun hfirst hpending => ?_, fun hlater hid => ?_, collectEvent_of_noOutstanding _ hrun hready hfits,
    collectEvent_of_idChanged _ hrun hready hfits⟩
  · rw [collectEvent_of_passes _ hrun hready hfits (fun _ => hpending) (absurd hfirst)]
    simp [settle, rDriveReady, withBeat, hfirst]
  · rw [collectEvent_of_passes _ hrun hready hfits (absurd · hlater) fun _ => hid]
    simp [settle, rDriveReady, withBeat, hid]

/-- Settles O15: after the collect step the oldest outstanding length of the beat's ID is compared with the length of
the accumulator, which this beat has made longer by one. -/
theorem rLastPublishesTheBurstOrRaises : Obligations.RLastPublishesTheBurstOrRaises := by
  intro s rid rdata hstarted hnone hready hfits
  have hrun := (running_iff s).2 ⟨hstarted, hnone⟩
  have hlength : (withBeat rid rdata s).r_burst_data.length = s.r_burst_data.length + 1 := List.length_append
  rw [exec_rLast]
  refine ⟨fun n ns hid hslot hn => ?_, collectEvent_of_noOutstanding _ hrun hready hfits,
    collectEvent_of_idChanged _ hrun hready hfits, fun n ns hid hslot hn => ?_⟩
  · have hpending : s.rd_pending[rid] ≠ [] := hslot ▸ List.cons_ne_nil n ns
    rw [collectEvent_of_passes _ hrun hready hfits (fun _ => hpending) hid,
      rPublish_of_length (s := withBeat rid rdata s) hslot (hn.trans hlength.symm)]
    rfl
  · have hpending : s.rd_pending[rid] ≠ [] := hslot ▸ List.cons_ne_nil n ns
    rw [collectEvent_of_passes _ hrun hready hfits (fun _ => hpending) hid,
      rPublish_of_otherLength (s := withBeat rid rdata s) hslot (hlength ▸ hn), hlength]
    exact ⟨_, rfl, takeViolation_fault _ s⟩

/-! ## No beat (R132) -/

theorem exec_rNobeatNotReady {s : State} (rvalid rlast : Bool) (hrun : running s = true) (hready : s.rready_q = false) :
    exec (.rNobeatNotReady rvalid rlast) s = .next (rDriveReady s) := by
  change execRNobeatNotReady rvalid rlast s = _
  exact channelEvent_of_ok hrun (by rw [hready, Bool.not_false]) rfl

theorem exec_rNobeatNotValid {s : State} (rlast : Bool) (hrun : running s = true) (hready : s.rready_q = true) :
    exec (.rNobeatNotValid rlast) s = .next (rDriveReady s) := by
  change execRNobeatNotValid rlast s = _
  exact channelEvent_of_ok hrun hready rfl

/-- Settles O13: either event is the ready drive, which writes one register. -/
theorem rNobeatRaisesReadyOnly : Obligations.RNobeatRaisesReadyOnly := by
  intro s rvalid rlast hstarted hnone
  have hrun := (running_iff s).2 ⟨hstarted, hnone⟩
  exact ⟨exec_rNobeatNotReady rvalid rlast hrun, exec_rNobeatNotValid rlast hrun⟩

end Sys2Proof.Machine
end

section
/-!
PROOFS. The write address channel driver (44_write_channels.md R140 to R145), symmetric to AR's: the drive by whether a
request is queued, and each of the three events as the drive, after the pop of an acceptance, which also feeds W.
-/

namespace Sys2Proof.Machine

/-! ## The drive (R141) -/

section
variable {s : State} {h : WriteRequest} {q : List WriteRequest}

theorem awDrive_of_nil (hq : s.aw_queue = []) :
    awDrive s = { s with awvalid_q := false, awaddr_q := 0, awlen_q := 0, awid_q := 0 } := by
  simp only [awDrive, hq]

theorem awDrive_of_cons (hq : s.aw_queue = h :: q) :
    awDrive s =
      { s with awvalid_q := true, awaddr_q := h.address, awlen_q := h.burst_len_minus1, awid_q := h.id } := by
  simp only [awDrive, hq]

/-- In REQUEST the drive writes the values that the registers already have (10_state.md R43 (c)). -/
theorem awDrive_of_awOutputs (hout : awOutputs s) (hvalid : s.awvalid_q = true) : awDrive s = s := by
  obtain ⟨h, q, hq, haddr, hlen, hid⟩ := hout.1 hvalid
  rw [awDrive_of_cons hq, ← hvalid, ← haddr, ← hlen, ← hid]

/-! ## The events -/

/-- AW.IDLE is the drive (R142), whatever the peer's ready. -/
theorem exec_awIdle (awready : Bool) (hrun : running s = true) (hvalid : s.awvalid_q = false) :
    exec (.awIdle awready) s = .next (awDrive s) := by
  change execAwIdle awready s = _
  exact channelEvent_of_ok hrun (by rw [hvalid, Bool.not_false]) rfl

/-- AW.STALL is the drive (R143). -/
theorem exec_awStall (hrun : running s = true) (hvalid : s.awvalid_q = true) : exec .awStall s = .next (awDrive s) := by
  change execAwStall s = _
  exact channelEvent_of_ok hrun hvalid rfl

/-- The state after the acceptance of `h`, `q` being left in the queue and `bytes` the width of a beat (R144). -/
def withWriteAccepted (h : WriteRequest) (q : List WriteRequest) (bytes : Nat) (s : State) : State :=
  { s with
    aw_queue := q
    wr_pending := pushSlot s.wr_pending h.id (beatCount h.burst_len_minus1)
    w_queue := s.w_queue ++ [{ beats := h.beats, byte_count := h.beats.length * bytes }] }

theorem awAcceptFront_of_cons (hq : s.aw_queue = h :: q) :
    awAcceptFront s = .ok (withWriteAccepted h q (beatBytes s) s) := by
  simp only [awAcceptFront, hq, withWriteAccepted, pushPending]

theorem beatBytes_of_cfg {c : BusConfig} (hcfg : s.cfg = some c) : beatBytes s = c.data_width_bits / 8 := by
  simp only [beatBytes, hcfg, BYTES]

/-- AW.ACCEPT moves the front request to the ledger and to W and then drives (R144). -/
theorem exec_awAccept_of_cons {c : BusConfig} (hrun : running s = true) (hcfg : s.cfg = some c)
    (hvalid : s.awvalid_q = true) (hq : s.aw_queue = h :: q) :
    exec .awAccept s = .next (awDrive (withWriteAccepted h q (c.data_width_bits / 8) s)) := by
  change execAwAccept s = _
  exact channelEvent_of_ok hrun hvalid (by rw [awAcceptFront_of_cons hq, beatBytes_of_cfg hcfg]; rfl)

end

/-- Settles O16: either event is the drive, by whether a request is queued; where one is driven already, its values
stand in the registers. -/
theorem awIdleAndStallDriveTheFrontRequest : Obligations.AwIdleAndStallDriveTheFrontRequest := by
  intro s awready hstarted hnone
  have hrun := (running_iff s).2 ⟨hstarted, hnone⟩
  refine ⟨fun hvalid hq => ?_, fun hvalid h q hq => ?_, fun hvalid h q hq => ?_, fun hvalid _ hout => ?_⟩
  · rw [exec_awIdle awready hrun hvalid, awDrive_of_nil hq]
  · rw [exec_awIdle awready hrun hvalid, awDrive_of_cons hq]
  · rw [exec_awStall hrun hvalid, awDrive_of_cons hq]
  · rw [exec_awStall hrun hvalid, awDrive_of_awOutputs hout hvalid]

/-- Settles O17: the event is the acceptance and then the drive of what is left in the queue. -/
theorem awAcceptRecordsTheRequestAndFeedsW : Obligations.AwAcceptRecordsTheRequestAndFeedsW := by
  intro s c h q hstarted hnone hcfg hvalid hq
  rw [exec_awAccept_of_cons ((running_iff s).2 ⟨hstarted, hnone⟩) hcfg hvalid hq]
  constructor
  · rintro rfl
    exact congrArg _ (awDrive_of_nil rfl)
  · rintro h2 q2 rfl
    exact congrArg _ (awDrive_of_cons rfl)

end Sys2Proof.Machine
end

section
/-!
PROOFS. The write data channel driver (44_write_channels.md R146 to R152). A beat that fits the bus travels through
`pack` and `unpack` and arrives as it is, so the drive presents the beat itself; W.ACCEPT is the advance by whether the
accepted beat is the final one, and then the drive.
-/

namespace Sys2Proof.Machine

section
variable {s t u : State} {b : WBurst} {q : List WBurst} {v : Nat}

/-! ## The drive (R147) -/

theorem wDrive_of_nil (hq : s.w_queue = []) :
    wDrive s = .ok { s with wvalid_q := false, wdata_q := 0, wlast_q := false } := by
  simp only [wDrive, hq]

/-- What stands on the wires is the beat: its words unpack to it (40_word_codec.md R104, R106). -/
theorem wDrive_of_cons (hq : s.w_queue = b :: q) (hv : b.beats[s.w_idx]? = some v) (hfits : v < 2 ^ DW s) :
    wDrive s =
      .ok { s with wvalid_q := true, wdata_q := v, wlast_q := decide (s.w_idx = b.beats.length - 1) } := by
  obtain ⟨words, hpack, hunpack⟩ := exists_pack_unpack hfits
  rw [wDrive_beat hq hv hpack, hunpack]

/-- In SEND the outputs of 10_state.md R43 (d) are the beat at `w_idx` of the front burst. -/
theorem wOutputs_beat (hout : wOutputs s) (hvalid : s.wvalid_q = true) (hq : s.w_queue = b :: q)
    (hv : b.beats[s.w_idx]? = some v) :
    s.wdata_q = v ∧ s.wlast_q = decide (s.w_idx = b.beats.length - 1) := by
  obtain ⟨b', q', hq', hdata, hlast⟩ := hout.1 hvalid
  obtain ⟨rfl, -⟩ := List.cons.inj (hq.symm.trans hq')
  exact ⟨Option.some.inj (hdata.symm.trans hv), Bool.eq_iff_iff.2 (hlast.trans decide_eq_true_iff.symm)⟩

/-! ## The advance (R151) -/

theorem wAdvance_of_more (hq : s.w_queue = b :: q) (hmore : s.w_idx + 1 ≠ b.beats.length) :
    wAdvance s = .ok { s with w_idx := s.w_idx + 1 } := by
  simp only [wAdvance, hq, hmore, if_false]

theorem wAdvance_of_final (hq : s.w_queue = b :: q) (hfinal : s.w_idx + 1 = b.beats.length) :
    wAdvance s = .ok { s with w_queue := q, w_idx := 0 } := by
  simp only [wAdvance, hq, hfinal, if_true]

/-! ## The events -/

/-- W.IDLE is the drive (R148), whatever the peer's ready. -/
theorem exec_wIdle (wready : Bool) (hrun : running s = true) (hvalid : s.wvalid_q = false) (hdrive : wDrive s = .ok t) :
    exec (.wIdle wready) s = .next t := by
  change execWIdle wready s = _
  exact channelEvent_of_ok hrun (by rw [hvalid, Bool.not_false]) hdrive

/-- W.STALL is the drive (R149). -/
theorem exec_wStall (hrun : running s = true) (hvalid : s.wvalid_q = true) (hdrive : wDrive s = .ok t) :
    exec .wStall s = .next t := by
  change execWStall s = _
  exact channelEvent_of_ok hrun hvalid hdrive

/-- W.ACCEPT is the advance and then the drive (R151). -/
theorem exec_wAccept (hrun : running s = true) (hvalid : s.wvalid_q = true) (hadvance : wAdvance s = .ok u)
    (hdrive : wDrive u = .ok t) : exec .wAccept s = .next t := by
  change execWAccept s = _
  exact channelEvent_of_ok hrun hvalid (by rw [hadvance]; exact hdrive)

end

/-- Settles O18: the event is the drive, by whether a burst is queued. -/
theorem wIdlePresentsTheFrontBeat : Obligations.WIdlePresentsTheFrontBeat := by
  intro s wready hstarted hnone hvalid
  have hrun := (running_iff s).2 ⟨hstarted, hnone⟩
  exact ⟨fun hq => exec_wIdle wready hrun hvalid (wDrive_of_nil hq),
    fun b q v hq hv hfits => exec_wIdle wready hrun hvalid (wDrive_of_cons hq hv hfits)⟩

/-- Settles O19: the event is the drive of the beat at `w_idx`, which stands in the registers already. -/
theorem wStallHoldsTheBeat : Obligations.WStallHoldsTheBeat := by
  intro s b q v hstarted hnone hvalid hq hv hfits
  have hstall := exec_wStall ((running_iff s).2 ⟨hstarted, hnone⟩) hvalid (wDrive_of_cons hq hv hfits)
  rw [← hvalid] at hstall
  refine ⟨hstall, fun hout => ?_⟩
  obtain ⟨hdata, hlast⟩ := wOutputs_beat hout hvalid hq hv
  rw [hstall, ← hdata, ← hlast]

/-- Settles O20: the advance by whether the accepted beat is the final one, and past the final one the drive by whether
another burst is queued. -/
theorem wAcceptAdvances : Obligations.WAcceptAdvances := by
  intro s b q hstarted hnone hvalid hq
  have hrun := (running_iff s).2 ⟨hstarted, hnone⟩
  refine ⟨fun v hmore hv hfits => ?_, fun hfinal hlast => ?_, fun b2 q2 v vs hfinal hnext hbeats hfits => ?_⟩
  · exact exec_wAccept hrun hvalid (wAdvance_of_more hq hmore.ne) (wDrive_of_cons hq hv hfits)
  · subst hlast
    exact exec_wAccept hrun hvalid (wAdvance_of_final hq hfinal) (wDrive_of_nil rfl)
  · subst hnext
    have hfirst : b2.beats[0]? = some v := by rw [hbeats, List.getElem?_cons_zero]
    have honly : 0 = b2.beats.length - 1 ↔ vs = [] := by
      rw [hbeats, List.length_cons, Nat.add_sub_cancel, eq_comm, List.length_eq_zero_iff]
    rw [exec_wAccept hrun hvalid (wAdvance_of_final hq hfinal) (wDrive_of_cons rfl hfirst hfits), decide_eq_decide.2 honly]

end Sys2Proof.Machine
end

section
/-!
PROOFS. The write response collector (44_write_channels.md R154 to R159): a response by its two checks, the ID first.
-/

namespace Sys2Proof.Machine

section
variable {s : State} {bid : TxnId} {bresp : BitVec 2}

/-- A selected event of a running machine that raises a ProtocolViolation records it (60_exceptions.md R226). -/
theorem channelEvent_of_violation {sel : Bool} {event : State → Except Halt State} {v : FaultRecord}
    (hrun : running s = true) (hsel : sel = true) (hraise : event s = .error (.violation v)) :
    channelEvent sel event s = .next (takeViolation v s) := by
  simp [channelEvent, hrun, hsel, hraise, settle]

/-! ## An accepted response (R158) -/

theorem hasPendingWrite_iff : hasPending .write bid s = true ↔ s.wr_pending[bid] ≠ [] := by
  simp [hasPending, pendingOf]

theorem bRespond_of_accepted {n : Nat} {ns : List Nat} (hslot : s.wr_pending[bid] = n :: ns)
    (hstatus : s.params.enforce_okay = false ∨ bresp = 0) :
    bRespond bid bresp s = .ok { s with
      wr_pending := setSlot s.wr_pending bid ns
      wr_completed := pushSlot s.wr_completed bid bresp.toNat } := by
  have hpending : hasPending .write bid s = true := hasPendingWrite_iff.2 (hslot ▸ List.cons_ne_nil n ns)
  obtain henforce | rfl := hstatus
  · simp [bRespond, hpending, henforce, popPending, pushCompletedWrite, popSlot_of_cons hslot]
  · simp [bRespond, hpending, popPending, pushCompletedWrite, popSlot_of_cons hslot]

theorem bRespond_of_noOutstanding (hslot : s.wr_pending[bid] = []) :
    bRespond bid bresp s =
      .error (.violation { cause := .WR_NO_OUTSTANDING, id := bid, expected := 0, got := 0 }) := by
  have hpending : hasPending .write bid s = false := Bool.eq_false_iff.2 fun h => hasPendingWrite_iff.1 h hslot
  rw [bRespond, hpending]
  rfl

theorem bRespond_of_errorStatus (hslot : s.wr_pending[bid] ≠ []) (henforce : s.params.enforce_okay = true)
    (hstatus : bresp ≠ 0) :
    bRespond bid bresp s =
      .error (.violation { cause := .WR_ERROR_RESPONSE, id := bid, expected := 0, got := bresp.toNat }) := by
  have hcode : (bresp != 0) = true := bne_iff_ne.2 hstatus
  rw [bRespond, hasPendingWrite_iff.2 hslot, henforce, hcode]
  rfl

/-! ## The events -/

/-- B.RESP is the response and then the ready drive (R158). -/
theorem exec_bResp_of_ok {t : State} (hrun : running s = true) (hready : s.bready_q = true)
    (hrespond : bRespond bid bresp s = .ok t) : exec (.bResp bid bresp) s = .next (bDriveReady t) := by
  change execBResp bid bresp s = _
  exact channelEvent_of_ok hrun hready (by rw [hrespond]; rfl)

/-- A B.RESP that fails a check records the violation; of the rest of the state nothing is said (46_cycle_step.md R195). -/
theorem exec_bResp_of_violation {v : FaultRecord} (hrun : running s = true) (hready : s.bready_q = true)
    (hrespond : bRespond bid bresp s = .error (.violation v)) :
    ∃ t, exec (.bResp bid bresp) s = .next t ∧ t.fault = some v := by
  refine ⟨takeViolation v s, ?_, takeViolation_fault v s⟩
  change execBResp bid bresp s = _
  exact channelEvent_of_violation hrun hready (by rw [hrespond]; rfl)

/-- B.NOBEAT is the ready drive (R156), here before ready is up, whatever the peer drives. -/
theorem exec_bNobeatNotReady (bvalid : Bool) (hrun : running s = true) (hready : s.bready_q = false) :
    exec (.bNobeatNotReady bvalid) s = .next (bDriveReady s) := by
  change execBNobeatNotReady bvalid s = _
  exact channelEvent_of_ok hrun (by rw [hready, Bool.not_false]) rfl

/-- B.NOBEAT with ready up and no response (R156). -/
theorem exec_bNobeatNotValid (hrun : running s = true) (hready : s.bready_q = true) :
    exec .bNobeatNotValid s = .next (bDriveReady s) := by
  change execBNobeatNotValid s = _
  exact channelEvent_of_ok hrun hready rfl

end

/-- Settles O21: either event is the ready drive, which writes one register. -/
theorem bNobeatRaisesReadyOnly : Obligations.BNobeatRaisesReadyOnly := by
  intro s bvalid hstarted hnone
  have hrun := (running_iff s).2 ⟨hstarted, hnone⟩
  exact ⟨exec_bNobeatNotReady bvalid hrun, exec_bNobeatNotValid hrun⟩

/-- Settles O22: the three cases of the response, the ready drive following where it is accepted. -/
theorem bRespFreesTheWriteOrRaises : Obligations.BRespFreesTheWriteOrRaises := by
  intro s bid bresp hstarted hnone hready
  have hrun := (running_iff s).2 ⟨hstarted, hnone⟩
  exact ⟨fun n ns hslot hstatus => exec_bResp_of_ok hrun hready (bRespond_of_accepted hslot hstatus),
    fun hslot => exec_bResp_of_violation hrun hready (bRespond_of_noOutstanding hslot),
    fun hslot henforce hstatus => exec_bResp_of_violation hrun hready (bRespond_of_errorStatus hslot henforce hstatus)⟩

end Sys2Proof.Machine
end

section
/-!
PROOFS. The host commands (45_host_commands.md R170 to R179). A command passes the gate, then its checks, then writes:
one lemma for each way through the gate and through the checks. READ and WRITE are SEND_READ and SEND_WRITE followed by
the entry into the loop, and a poll of the loop is RECV_READ or RECV_WRITE, so what is said of the wrappers follows from
what is said of the four commands they are made of.
-/

namespace Sys2Proof.Machine

/-! ## The gate (R176 (e), R179, R196) -/

section
variable {s : State} {cmd : BusConfig → Result}

theorem commandGate_of_waiting {w : Waiting} (hwait : s.waiting = some w) : commandGate s = some .hostBlocked := by
  simp [commandGate, hwait]

theorem onInstance_of_waiting {w : Waiting} (hwait : s.waiting = some w) (cmd : BusConfig → Result) :
    onInstance s cmd = .refused .hostBlocked := by
  simp only [onInstance, commandGate_of_waiting hwait]

theorem onInstance_of_open {c : BusConfig} (hcfg : s.cfg = some c) (hwait : s.waiting = none) (hnone : s.fault = none) :
    onInstance s cmd = cmd c := by
  simp only [onInstance, commandGate_none.2 ⟨hwait, hnone⟩, hcfg]

/-- A command that refuses under the configuration there is, if any, is refused: the gate only adds refusals. -/
theorem onInstance_refuses (hcmd : ∀ c, s.cfg = some c → ∃ r, cmd c = .refused r) :
    ∃ r, onInstance s cmd = .refused r := by
  cases hgate : commandGate s with
  | some r => exact ⟨r, by simp only [onInstance, hgate]⟩
  | none =>
    cases hcfg : s.cfg with
    | none => exact ⟨.noInstance, by simp only [onInstance, hgate, hcfg]⟩
    | some c => simpa only [onInstance, hgate, hcfg] using hcmd c hcfg

theorem onInstance_refuses_of_noInstance (hcfg : s.cfg = none) (cmd : BusConfig → Result) :
    ∃ r, onInstance s cmd = .refused r :=
  onInstance_refuses fun c hc => by simp [hcfg] at hc

end

/-- Settles O57: every host command but CONSTRUCT goes through `onInstance`, and CONSTRUCT asks the same gate. -/
theorem noCommandWhileAWrapperWaits : Obligations.NoCommandWhileAWrapperWaits := by
  intro s w i hwait hport
  cases i with
  | construct dwBits awBits =>
    change execConstruct dwBits awBits s = _
    simp only [execConstruct, commandGate_of_waiting hwait]
  | sendRead | recvRead | sendWrite | recvWrite | read | write | init => exact onInstance_of_waiting hwait _
  | _ => cases hport

/-! ## The word presented next (R178) -/

theorem restOf_eq_ite (p : Port) (left : List Byte) (later : List Stimulus) :
    restOf p left later = if left = [] then later else { port := p, bytes := left } :: later := by
  cases left <;> rfl

/-- Settles O5: the fetch takes the word's bytes and the step performs it. -/
theorem stepPerformsThePresentedInstruction : Obligations.StepPerformsThePresentedInstruction := by
  intro s p bs left later i hstimuli hdecode
  have hfetch : fetch s = .ok (i, { s with stimuli := restOf p left later }) := by
    simp only [fetch, hstimuli, hdecode]
  simp only [step, hfetch, restOf_eq_ite]

/-! ## CONSTRUCT and INIT (R170, R171) -/

theorem exec_construct_of_open {s : State} (dwBits awBits : Nat) (hwait : s.waiting = none) (hnone : s.fault = none) :
    exec (.construct dwBits awBits) s =
      if configWellFormed ⟨s.iface_strap, dwBits, awBits⟩ then
        .next (respond .ok (freshInstance (some ⟨s.iface_strap, dwBits, awBits⟩) s))
      else .next (respond .invalidArgument s) := by
  change execConstruct dwBits awBits s = _
  simp only [execConstruct, commandGate_none.2 ⟨hwait, hnone⟩]

/-- Settles O23: past the gate, by whether the configuration is well formed. -/
theorem constructMakesAFreshInstance : Obligations.ConstructMakesAFreshInstance := by
  intro s dwBits awBits hwait hnone
  rw [exec_construct_of_open dwBits awBits hwait hnone]
  refine ⟨fun hwf => if_pos ((configWellFormed_iff _).2 hwf), fun hbad => if_neg fun hwf => ?_⟩
  obtain ⟨hbyte, hmin, haddr⟩ := (configWellFormed_iff _).1 hwf
  simp only at hbyte hmin haddr
  omega

/-- Settles O24: past the gate and the check that INIT has not been made. -/
theorem initStartsTheInstance : Obligations.InitStartsTheInstance := by
  intro s c hcfg hwait hnone hstopped
  change execInit s = _
  simp only [execInit, onInstance_of_open hcfg hwait hnone, hstopped]
  rfl

/-! ## The checks of a request (R172, R174, R179) -/

section
variable {s : State} {c : BusConfig} {addr len : Nat} {data : List Nat}

theorem requestValid_iff : requestValid c addr len = true ↔ addr % (c.data_width_bits / 8) = 0 ∧
    len % (c.data_width_bits / 8) = 0 ∧ addr % 4096 + len ≤ 4096 := by
  simp only [requestValid, BYTES, Bool.and_eq_true, beq_iff_eq, decide_eq_true_eq, and_assoc]
  rfl

/-- A payload is a whole number of beats, so that its length is aligned already. -/
theorem requestValid_payload_iff : requestValid c addr (payloadLength c data) = true ↔
    addr % (c.data_width_bits / 8) = 0 ∧ addr % 4096 + data.length * (c.data_width_bits / 8) ≤ 4096 := by
  simp [requestValid_iff, payloadLength, BYTES]

theorem transactionDomain_of_started (hstarted : s.started = true) (id : TxnId) :
    transactionDomain s id.val = .ok id := by
  simp [transactionDomain, hstarted]

theorem transactionDomain_refuses {id : Nat} (hout : s.started = false ∨ 16 ≤ id) :
    ∃ r, transactionDomain s id = .error r := by
  cases hdomain : transactionDomain s id with
  | error r => exact ⟨r, rfl⟩
  | ok k =>
    obtain ⟨hstarted, hid⟩ := transactionDomain_ok hdomain
    rcases hout with hout | hout
    · simp [hstarted] at hout
    · omega

theorem spanDomain_of_fits {n : Nat} (hspace : addr + len ≤ 2 ^ c.addr_width_bits) (hbeats : n < 2 ^ s.params.len_w) :
    spanDomain s c addr len n = .ok () := by
  simp only [spanDomain, hspace.not_gt, hbeats.not_ge, if_false]

theorem checkRead_of_admitted (id : TxnId) (hvalid : requestValid c addr len = true) (hstarted : s.started = true)
    (hlen : 0 < len) (hspace : addr + len ≤ 2 ^ c.addr_width_bits) (hbeats : readLen c len < 2 ^ s.params.len_w) :
    checkRead s c addr len id.val =
      .request { address := addr, burst_len_minus1 := readLen c len, id := id } := by
  simp [checkRead, hvalid, transactionDomain_of_started hstarted, hlen.ne', spanDomain_of_fits hspace hbeats]

theorem checkWrite_of_admitted (id : TxnId) (hvalid : requestValid c addr (payloadLength c data) = true)
    (hstarted : s.started = true) (hdata : data ≠ []) (hfits : ∀ v ∈ data, v < 2 ^ c.data_width_bits)
    (hspace : addr + payloadLength c data ≤ 2 ^ c.addr_width_bits) (hbeats : data.length - 1 < 2 ^ s.params.len_w) :
    checkWrite s c addr data id.val =
      .request { address := addr, burst_len_minus1 := data.length - 1, id := id, beats := data } := by
  simpa [checkWrite, hvalid, transactionDomain_of_started hstarted, hdata, spanDomain_of_fits hspace hbeats] using hfits

/-- The source's validations come first, and only they answer InvalidArgument. -/
theorem checkRead_invalid_iff {id : Nat} :
    checkRead s c addr len id = .invalid ↔ requestValid c addr len = false := by
  unfold checkRead
  split
  · next hbad => simpa using hbad
  · next hgood =>
    refine iff_of_false ?_ (by simpa using hgood)
    split
    · simp
    · split
      · simp
      · split <;> simp

theorem checkWrite_invalid_iff {id : Nat} :
    checkWrite s c addr data id = .invalid ↔ requestValid c addr (payloadLength c data) = false := by
  unfold checkWrite
  split
  · next hbad => simpa using hbad
  · next hgood =>
    refine iff_of_false ?_ (by simpa using hgood)
    split
    · simp
    · split
      · simp
      · split
        · simp
        · split <;> simp

/-- A valid call that misses a condition of the admitted domain: a request would have met them all. -/
theorem checkRead_outside {id : Nat} (hvalid : requestValid c addr len = true)
    (hout : s.started = false ∨ 16 ≤ id ∨ len = 0 ∨ 2 ^ c.addr_width_bits < addr + len ∨
      2 ^ s.params.len_w ≤ readLen c len) : ∃ r, checkRead s c addr len id = .outside r := by
  cases hcheck : checkRead s c addr len id with
  | outside r => exact ⟨r, rfl⟩
  | invalid => simp [checkRead_invalid_iff.1 hcheck] at hvalid
  | request req =>
    obtain ⟨-, hstarted, hlen, hspace, hbeats, hid, -⟩ := checkRead_request hcheck
    have hreq := req.id.isLt
    rcases hout with hstopped | hout
    · simp [hstarted] at hstopped
    · omega

theorem checkWrite_outside {id : Nat} (hvalid : requestValid c addr (payloadLength c data) = true)
    (hout : s.started = false ∨ 16 ≤ id ∨ data = [] ∨ (∃ v ∈ data, 2 ^ c.data_width_bits ≤ v) ∨
      2 ^ c.addr_width_bits < addr + payloadLength c data ∨ 2 ^ s.params.len_w ≤ data.length - 1) :
    ∃ r, checkWrite s c addr data id = .outside r := by
  cases hcheck : checkWrite s c addr data id with
  | outside r => exact ⟨r, rfl⟩
  | invalid => simp [checkWrite_invalid_iff.1 hcheck] at hvalid
  | request req =>
    obtain ⟨-, hstarted, hdata, hfits, hspace, hbeats, hid, -⟩ := checkWrite_request hcheck
    have hreq := req.id.isLt
    rcases hout with hstopped | hout | hempty | ⟨v, hv, hwide⟩ | hout
    · simp [hstarted] at hstopped
    · omega
    · exact absurd hempty hdata
    · exact absurd (hfits v hv) hwide.not_gt
    · omega

end

/-! ## Outside the admitted domain (R179) -/

section
variable {s : State} {c : BusConfig} {addr len id : Nat} {data : List Nat} {r : Refusal}

theorem init_refuses_of_started (hstarted : s.started = true) : ∃ r, exec .init s = .refused r :=
  onInstance_refuses fun _ _ => ⟨.alreadyStarted, by simp only [hstarted, if_true]⟩

theorem recv_refuses (hout : s.started = false ∨ 16 ≤ id) :
    (∃ r, exec (.recvRead id) s = .refused r) ∧ ∃ r, exec (.recvWrite id) s = .refused r := by
  obtain ⟨r, hdomain⟩ := transactionDomain_refuses hout
  exact ⟨onInstance_refuses fun _ _ => ⟨r, by simp only [hdomain]⟩,
    onInstance_refuses fun _ _ => ⟨r, by simp only [hdomain]⟩⟩

theorem reads_refuse_of_outside (hcfg : s.cfg = some c) (hcheck : checkRead s c addr len id = .outside r) :
    (∃ r, exec (.sendRead addr len id) s = .refused r) ∧ ∃ r, exec (.read addr len id) s = .refused r := by
  constructor <;>
  · refine onInstance_refuses fun c' hc' => ⟨r, ?_⟩
    obtain rfl := Option.some.inj (hcfg.symm.trans hc')
    simp only [hcheck]

theorem writes_refuse_of_outside (hcfg : s.cfg = some c) (hcheck : checkWrite s c addr data id = .outside r) :
    (∃ r, exec (.sendWrite addr data id) s = .refused r) ∧ ∃ r, exec (.write addr data id) s = .refused r := by
  constructor <;>
  · refine onInstance_refuses fun c' hc' => ⟨r, ?_⟩
    obtain rfl := Option.some.inj (hcfg.symm.trans hc')
    simp only [hcheck]

end

/-- Settles O33: the commands one after another, each by the condition that it finds missing. -/
theorem commandsOutsideTheAdmittedDomainAreRefused : Obligations.CommandsOutsideTheAdmittedDomainAreRefused := by
  refine ⟨fun s hcfg => ?_, fun _ => init_refuses_of_started, fun _ _ => recv_refuses,
    fun s c addr len id hcfg hvalid hout => ?_, fun s c addr data id hcfg hvalid hout => ?_⟩
  · have hrefuses := fun cmd => onInstance_refuses_of_noInstance hcfg cmd
    exact ⟨hrefuses _, fun _ => ⟨hrefuses _, hrefuses _⟩, fun _ _ _ => ⟨hrefuses _, hrefuses _⟩,
      fun _ _ _ => ⟨hrefuses _, hrefuses _⟩⟩
  · obtain ⟨r, hcheck⟩ := checkRead_outside hvalid hout
    exact reads_refuse_of_outside hcfg hcheck
  · obtain ⟨r, hcheck⟩ := checkWrite_outside hvalid hout
    exact writes_refuse_of_outside hcfg hcheck

/-! ## The four commands (R172 to R175) -/

section
variable {s t : State} {c : BusConfig} {addr len id : Nat} {data : List Nat} (hcfg : s.cfg = some c)
  (hwait : s.waiting = none) (hnone : s.fault = none)
include hcfg hwait hnone

theorem exec_sendRead_of_request {req : PendingRequest} (hcheck : checkRead s c addr len id = .request req) :
    exec (.sendRead addr len id) s = .next (respond .ok { s with ar_queue := s.ar_queue ++ [req] }) := by
  change execSendRead addr len id s = _
  simp only [execSendRead, onInstance_of_open hcfg hwait hnone, hcheck]

theorem exec_sendRead_of_invalid (hbad : requestValid c addr len ≠ true) :
    exec (.sendRead addr len id) s = .next (respond .invalidArgument s) := by
  change execSendRead addr len id s = _
  simp only [execSendRead, onInstance_of_open hcfg hwait hnone, checkRead_invalid_iff.2 (Bool.eq_false_iff.2 hbad)]

theorem exec_sendWrite_of_request {req : WriteRequest} (hcheck : checkWrite s c addr data id = .request req) :
    exec (.sendWrite addr data id) s = .next (respond .ok { s with aw_queue := s.aw_queue ++ [req] }) := by
  change execSendWrite addr data id s = _
  simp only [execSendWrite, onInstance_of_open hcfg hwait hnone, hcheck]

theorem exec_sendWrite_of_invalid (hbad : requestValid c addr (payloadLength c data) ≠ true) :
    exec (.sendWrite addr data id) s = .next (respond .invalidArgument s) := by
  change execSendWrite addr data id s = _
  simp only [execSendWrite, onInstance_of_open hcfg hwait hnone, checkWrite_invalid_iff.2 (Bool.eq_false_iff.2 hbad)]

end

/-- Settles O25: the checks pass, or one of the source's validations fails. -/
theorem sendReadQueuesTheRequest : Obligations.SendReadQueuesTheRequest := by
  intro s c addr len id hcfg hwait hnone
  refine ⟨fun haddr halign hcross hstarted hlen hspace hbeats => ?_, fun hbad => ?_⟩
  · have hvalid := requestValid_iff.2 ⟨haddr, halign, hcross⟩
    exact exec_sendRead_of_request hcfg hwait hnone (checkRead_of_admitted id hvalid hstarted hlen hspace hbeats)
  · refine exec_sendRead_of_invalid hcfg hwait hnone fun hvalid => ?_
    obtain ⟨haddr, halign, hcross⟩ := requestValid_iff.1 hvalid
    omega

/-- Settles O27: as for SEND_READ, the length of the payload being aligned in any case. -/
theorem sendWriteQueuesTheRequest : Obligations.SendWriteQueuesTheRequest := by
  intro s c addr data id hcfg hwait hnone
  refine ⟨fun haddr hcross hstarted hdata hfits hspace hbeats => ?_, fun hbad => ?_⟩
  · have hvalid := requestValid_payload_iff.2 ⟨haddr, hcross⟩
    exact exec_sendWrite_of_request hcfg hwait hnone
      (checkWrite_of_admitted id hvalid hstarted hdata hfits hspace hbeats)
  · refine exec_sendWrite_of_invalid hcfg hwait hnone fun hvalid => ?_
    obtain ⟨haddr, hcross⟩ := requestValid_payload_iff.1 hvalid
    omega

/-- Settles O26: in the domain the command is `take_completed(read, id)` (41_ledger.md R115). -/
theorem recvReadReturnsTheOldestBurst : Obligations.RecvReadReturnsTheOldestBurst := by
  intro s c id hcfg hwait hnone hstarted
  change (_ → execRecvRead id.val s = _) ∧ ∀ burst bursts, _ → execRecvRead id.val s = _
  simp only [execRecvRead, onInstance_of_open hcfg hwait hnone, transactionDomain_of_started hstarted]
  exact ⟨fun hslot => by rw [takeCompletedRead_of_nil hslot]; rfl,
    fun burst bursts hslot => by rw [takeCompletedRead_of_cons hslot]; rfl⟩

/-- Settles O28: in the domain the command is `take_completed(write, id)`. -/
theorem recvWriteReportsACompletedWrite : Obligations.RecvWriteReportsACompletedWrite := by
  intro s c id hcfg hwait hnone hstarted
  change (_ → execRecvWrite id.val s = _) ∧ ∀ code codes, _ → execRecvWrite id.val s = _
  simp only [execRecvWrite, onInstance_of_open hcfg hwait hnone, transactionDomain_of_started hstarted]
  exact ⟨fun hslot => by rw [takeCompletedWrite_of_nil hslot]; rfl,
    fun code codes hslot => by rw [takeCompletedWrite_of_cons hslot]; rfl⟩

/-! ## A poll is RECV_READ or RECV_WRITE (R176, R177) -/

/-- The host in the loop of wrapper `w`, with nothing returned or with `r` returned before (entry 7). -/
def inLoop (w : Waiting) (r : Option Reply) (s : State) : State := { s with waiting := some w, reply := r }

section
variable {s t : State} {id : TxnId} (r : Option Reply)

/-- A RECV_READ that answers was issued in its admitted domain (R179). -/
theorem recvRead_domain (h : exec (.recvRead id.val) s = .next t) :
    ∃ c, s.cfg = some c ∧ s.waiting = none ∧ s.fault = none ∧ s.started = true := by
  obtain ⟨c, hcfg, hwait, hnone, hcmd⟩ := onInstance_next (show execRecvRead id.val s = .next t from h)
  split at hcmd
  · cases hcmd
  · next k hk => exact ⟨c, hcfg, hwait, hnone, (transactionDomain_ok hk).1⟩

/-- A RECV_WRITE that answers was issued in its admitted domain (R179). -/
theorem recvWrite_domain (h : exec (.recvWrite id.val) s = .next t) :
    ∃ c, s.cfg = some c ∧ s.waiting = none ∧ s.fault = none ∧ s.started = true := by
  obtain ⟨c, hcfg, hwait, hnone, hcmd⟩ := onInstance_next (show execRecvWrite id.val s = .next t from h)
  split at hcmd
  · cases hcmd
  · next k hk => exact ⟨c, hcfg, hwait, hnone, (transactionDomain_ok hk).1⟩

theorem pollWaiting_read_of_nil (hloop : s.waiting = some (.read id)) (hslot : s.rd_completed[id] = []) :
    pollWaiting s = s := by
  simp only [pollWaiting, hloop, takeCompletedRead_of_nil hslot]

theorem pollWaiting_write_of_nil (hloop : s.waiting = some (.write id)) (hslot : s.wr_completed[id] = []) :
    pollWaiting s = s := by
  simp only [pollWaiting, hloop, takeCompletedWrite_of_nil hslot]

/-- A poll that finds a burst returns what RECV_READ returns, and ends the loop. -/
theorem pollWaiting_read_of_cons {burst : List Nat} {bursts : List (List Nat)} (hwait : s.waiting = none)
    (hslot : s.rd_completed[id] = burst :: bursts) :
    pollWaiting (inLoop (.read id) r s) =
      respond (.okBurst burst) { s with rd_completed := setSlot s.rd_completed id bursts } := by
  simp only [pollWaiting, inLoop, respond, hwait,
    takeCompletedRead_of_cons (s := { s with waiting := some (.read id), reply := r }) hslot]

/-- A poll that finds a response returns what RECV_WRITE returns, and ends the loop. -/
theorem pollWaiting_write_of_cons {code : Nat} {codes : List Nat} (hwait : s.waiting = none)
    (hslot : s.wr_completed[id] = code :: codes) :
    pollWaiting (inLoop (.write id) r s) =
      respond .ok { s with wr_completed := setSlot s.wr_completed id codes } := by
  simp only [pollWaiting, inLoop, respond, hwait,
    takeCompletedWrite_of_cons (s := { s with waiting := some (.write id), reply := r }) hslot]

/-- The poll of a READ: NotReady stays in the loop, and any other answer of RECV_READ is the wrapper's. -/
theorem pollWaiting_read_eq (h : exec (.recvRead id.val) s = .next t) :
    pollWaiting (inLoop (.read id) r s) = if t.reply = some .notReady then inLoop (.read id) r s else t := by
  obtain ⟨c, hcfg, hwait, hnone, hstarted⟩ := recvRead_domain h
  obtain ⟨hempty, hfront⟩ := recvReadReturnsTheOldestBurst s c id hcfg hwait hnone hstarted
  cases hslot : s.rd_completed[id] with
  | nil =>
    cases h.symm.trans (hempty hslot)
    exact pollWaiting_read_of_nil rfl hslot
  | cons burst bursts =>
    cases h.symm.trans (hfront burst bursts hslot)
    exact pollWaiting_read_of_cons r hwait hslot

/-- The poll of a WRITE: NotReady stays in the loop, and any other answer of RECV_WRITE is the wrapper's. -/
theorem pollWaiting_write_eq (h : exec (.recvWrite id.val) s = .next t) :
    pollWaiting (inLoop (.write id) r s) = if t.reply = some .notReady then inLoop (.write id) r s else t := by
  obtain ⟨c, hcfg, hwait, hnone, hstarted⟩ := recvWrite_domain h
  obtain ⟨hempty, hfront⟩ := recvWriteReportsACompletedWrite s c id hcfg hwait hnone hstarted
  cases hslot : s.wr_completed[id] with
  | nil =>
    cases h.symm.trans (hempty hslot)
    exact pollWaiting_write_of_nil rfl hslot
  | cons code codes =>
    cases h.symm.trans (hfront code codes hslot)
    exact pollWaiting_write_of_cons r hwait hslot

end

/-! ## READ and WRITE are the request and then the loop (R176, R177) -/

/-- Entering the loop overwrites what the request returned, so READ is SEND_READ and then the loop. -/
theorem exec_read_of_sendRead {addr len : Nat} {id : TxnId} {s t : State}
    (h : exec (.sendRead addr len id.val) s = .next t) :
    exec (.read addr len id.val) s = .next (if t.reply = some .ok then startWaiting (.read id) t else t) := by
  change execRead addr len id.val s = _
  obtain ⟨c, hcfg, hwait, hnone, hcmd⟩ := onInstance_next (show execSendRead addr len id.val s = .next t from h)
  rw [execRead, onInstance_of_open hcfg hwait hnone]
  cases hcheck : checkRead s c addr len id.val <;> rw [hcheck] at hcmd <;> cases hcmd
  case invalid => rfl
  case request req =>
    obtain ⟨-, -, -, -, -, hid, -⟩ := checkRead_request hcheck
    rw [Fin.ext hid]
    rfl

/-- WRITE is SEND_WRITE and then the loop. -/
theorem exec_write_of_sendWrite {addr : Nat} {data : List Nat} {id : TxnId} {s t : State}
    (h : exec (.sendWrite addr data id.val) s = .next t) :
    exec (.write addr data id.val) s = .next (if t.reply = some .ok then startWaiting (.write id) t else t) := by
  change execWrite addr data id.val s = _
  obtain ⟨c, hcfg, hwait, hnone, hcmd⟩ := onInstance_next (show execSendWrite addr data id.val s = .next t from h)
  rw [execWrite, onInstance_of_open hcfg hwait hnone]
  cases hcheck : checkWrite s c addr data id.val <;> rw [hcheck] at hcmd <;> cases hcmd
  case invalid => rfl
  case request req =>
    obtain ⟨-, -, -, -, -, -, hid, -⟩ := checkWrite_request hcheck
    rw [Fin.ext hid]
    rfl

/-- In the other loop shape of D24 the entry into the loop polls. -/
theorem startWaiting_pollFirst {w : Waiting} {s : State} (hpoll : s.params.poll_first = true) :
    startWaiting w s = pollWaiting (inLoop w none s) := by
  simp only [startWaiting, hpoll, if_true, inLoop]

/-- The parameters are written by nothing, so the loop shape is the same after the request (entry 13). -/
theorem exec_next_pollFirst {i : Instr} {s t : State} {shape : Bool} (h : exec i s = .next t)
    (hshape : s.params.poll_first = shape) : t.params.poll_first = shape := by
  obtain ⟨-, -, hparams, -⟩ := onlyConstructWritesTheConfiguration i s t h
  rwa [hparams]

/-- Settles O29: READ is SEND_READ and then the loop, whose entry waits or, where it polls first, is a RECV_READ; WRITE
likewise. -/
theorem wrappersSendAndThenWait : Obligations.WrappersSendAndThenWait := by
  intro s t
  refine ⟨fun htick => ⟨fun addr len id h => ?_, fun addr data id h => ?_⟩,
    fun hpoll => ⟨fun addr len id h => ?_, fun addr data id h => ?_⟩⟩
  · rw [exec_read_of_sendRead h, startWaiting_tickFirst (exec_next_pollFirst h htick)]
  · rw [exec_write_of_sendWrite h, startWaiting_tickFirst (exec_next_pollFirst h htick)]
  · rw [exec_read_of_sendRead h]
    refine ⟨fun hother => by rw [if_neg hother], fun hok u hrecv => ?_⟩
    rw [if_pos hok, startWaiting_pollFirst (exec_next_pollFirst h hpoll), pollWaiting_read_eq none hrecv]
    rfl
  · rw [exec_write_of_sendWrite h]
    refine ⟨fun hother => by rw [if_neg hother], fun hok u hrecv => ?_⟩
    rw [if_pos hok, startWaiting_pollFirst (exec_next_pollFirst h hpoll), pollWaiting_write_eq none hrecv]
    rfl

section
variable {id : TxnId} {s : State}

/-- READ waits where its loop ticks first, or polls first and finds nothing. -/
theorem startWaiting_read_waits (hwaits : s.params.poll_first = false ∨ s.rd_completed[id] = []) :
    startWaiting (.read id) s = inLoop (.read id) none s := by
  cases hshape : s.params.poll_first with
  | false => exact startWaiting_tickFirst hshape
  | true =>
    rw [startWaiting_pollFirst hshape]
    exact pollWaiting_read_of_nil rfl (hwaits.resolve_left (by simp [hshape]))

/-- WRITE waits where its loop ticks first, or polls first and finds nothing. -/
theorem startWaiting_write_waits (hwaits : s.params.poll_first = false ∨ s.wr_completed[id] = []) :
    startWaiting (.write id) s = inLoop (.write id) none s := by
  cases hshape : s.params.poll_first with
  | false => exact startWaiting_tickFirst hshape
  | true =>
    rw [startWaiting_pollFirst hshape]
    exact pollWaiting_write_of_nil rfl (hwaits.resolve_left (by simp [hshape]))

/-- READ returns at once where it polls first and finds a burst. -/
theorem startWaiting_read_returns {burst : List Nat} {bursts : List (List Nat)} (hpoll : s.params.poll_first = true)
    (hwait : s.waiting = none) (hslot : s.rd_completed[id] = burst :: bursts) :
    startWaiting (.read id) s =
      respond (.okBurst burst) { s with rd_completed := setSlot s.rd_completed id bursts } :=
  (startWaiting_pollFirst hpoll).trans (pollWaiting_read_of_cons none hwait hslot)

/-- WRITE returns at once where it polls first and finds a response. -/
theorem startWaiting_write_returns {code : Nat} {codes : List Nat} (hpoll : s.params.poll_first = true)
    (hwait : s.waiting = none) (hslot : s.wr_completed[id] = code :: codes) :
    startWaiting (.write id) s =
      respond .ok { s with wr_completed := setSlot s.wr_completed id codes } :=
  (startWaiting_pollFirst hpoll).trans (pollWaiting_write_of_cons none hwait hslot)

end

/-- Settles O30: the state that SEND_READ or SEND_WRITE gives, and then the entry into the loop. -/
theorem wrappersQueueTheirRequest : Obligations.WrappersQueueTheirRequest := by
  intro s c addr id hcfg hwait hnone hstarted haddr
  refine ⟨fun len halign hcross hlen hspace hbeats => ?_, fun data hcross hdata hfits hspace hbeats => ?_⟩
  · have hsend := (sendReadQueuesTheRequest s c addr len id hcfg hwait hnone).1 haddr halign hcross hstarted hlen
      hspace hbeats
    rw [exec_read_of_sendRead hsend, if_pos rfl]
    exact ⟨fun hwaits => congrArg _ (startWaiting_read_waits hwaits),
      fun burst bursts hpoll hslot => congrArg _ (startWaiting_read_returns hpoll hwait hslot)⟩
  · have hsend := (sendWriteQueuesTheRequest s c addr data id hcfg hwait hnone).1 haddr hcross hstarted hdata hfits
      hspace hbeats
    rw [exec_write_of_sendWrite hsend, if_pos rfl]
    exact ⟨fun hwaits => congrArg _ (startWaiting_write_waits hwaits),
      fun code codes hpoll hslot => congrArg _ (startWaiting_write_returns hpoll hwait hslot)⟩

end Sys2Proof.Machine
end

section
/-!
PROOFS. The loop of READ and WRITE (45_host_commands.md R176, R177). The five machines of a tick neither read nor write
what the host waits for, machine by machine, so a tick while a wrapper waits is the tick of the same state without the
wrapper, and then the poll.
-/

namespace Sys2Proof.Machine

/-- The state with another wrapper in progress, or with none. -/
def withWaiting (w : Option Waiting) (s : State) : State := { s with waiting := w }

/-- A machine's event does the same whatever the host waits for, and leaves that as it is. -/
def IgnoresWaiting (event : State → Except Halt State) : Prop :=
  ∀ w s, event (withWaiting w s) = (event s).map (withWaiting w)

section
variable {f g : State → Except Halt State}

theorem IgnoresWaiting.bind (hf : IgnoresWaiting f) (hg : IgnoresWaiting g) :
    IgnoresWaiting fun s => (f s).bind g := by
  intro w s
  simp only [hf w s]
  cases f s with
  | error e => rfl
  | ok t => exact hg w t

/-- A choice that the wrapper has no part in. -/
theorem IgnoresWaiting.ite {c : State → Bool} (hc : ∀ w s, c (withWaiting w s) = c s) (hf : IgnoresWaiting f)
    (hg : IgnoresWaiting g) : IgnoresWaiting fun s => if c s then f s else g s := by
  intro w s
  simp only [hc]
  split
  · exact hf w s
  · exact hg w s

/-- What completes keeps what the host waits for. -/
theorem IgnoresWaiting.waiting_eq {s t : State} (hf : IgnoresWaiting f) (h : f s = .ok t) : t.waiting = s.waiting := by
  have hmap : f s = (f s).map (withWaiting s.waiting) := hf s.waiting s
  rw [h] at hmap
  have hkept : t = withWaiting s.waiting t := Except.ok.inj hmap
  rw [hkept]
  rfl

end

/-! ## The machines -/

theorem arDrive_ignoresWaiting : IgnoresWaiting fun s => .ok (arDrive s) := by
  intro w s
  refine congrArg Except.ok ?_
  cases hq : s.ar_queue with
  | nil => rw [arDrive_of_nil hq, arDrive_of_nil (s := withWaiting w s) hq]; rfl
  | cons h q => rw [arDrive_of_cons hq, arDrive_of_cons (s := withWaiting w s) hq]; rfl

theorem awDrive_ignoresWaiting : IgnoresWaiting fun s => .ok (awDrive s) := by
  intro w s
  refine congrArg Except.ok ?_
  cases hq : s.aw_queue with
  | nil => rw [awDrive_of_nil hq, awDrive_of_nil (s := withWaiting w s) hq]; rfl
  | cons h q => rw [awDrive_of_cons hq, awDrive_of_cons (s := withWaiting w s) hq]; rfl

theorem arAcceptFront_ignoresWaiting : IgnoresWaiting arAcceptFront := by
  intro w s
  unfold arAcceptFront
  cases hq : s.ar_queue <;> simp [withWaiting, hq, pushPending, Except.map]

theorem awAcceptFront_ignoresWaiting : IgnoresWaiting awAcceptFront := by
  intro w s
  unfold awAcceptFront
  cases hq : s.aw_queue <;> simp [withWaiting, hq, pushPending, beatBytes, Except.map]

theorem wDrive_ignoresWaiting : IgnoresWaiting wDrive := by
  intro w s
  have hwidth : DW (withWaiting w s) = DW s := rfl
  unfold wDrive
  rw [hwidth]
  cases hq : s.w_queue with
  | nil => simp [withWaiting, hq, Except.map]
  | cons b q =>
    cases hv : b.beats[s.w_idx]? with
    | none => simp [withWaiting, hq, hv, Except.map]
    | some v => cases hp : pack v (DW s) <;> simp [withWaiting, hq, hv, hp, Except.map]

theorem wAdvance_ignoresWaiting : IgnoresWaiting wAdvance := by
  intro w s
  unfold wAdvance
  cases hq : s.w_queue with
  | nil => simp [withWaiting, hq, Except.map]
  | cons b q => by_cases hl : s.w_idx + 1 = b.beats.length <;> simp [withWaiting, hq, hl, Except.map]

theorem rCollect_ignoresWaiting (rid : TxnId) (words : List Nat) : IgnoresWaiting (rCollect rid words) := by
  intro w s
  unfold rCollect
  change (if s.r_burst_data = [] then if hasPending .read rid s then _ else _
    else if rid = s.r_burst_id then _ else _) = _
  split_ifs <;> rfl

theorem rPublish_ignoresWaiting : IgnoresWaiting rPublish := by
  intro w s
  have hfront : frontPending .read (withWaiting w s).r_burst_id (withWaiting w s) =
      frontPending .read s.r_burst_id s := rfl
  simp only [rPublish, hfront]
  cases frontPending .read s.r_burst_id s with
  | none => rfl
  | some n =>
    dsimp only
    change (if n = s.r_burst_data.length then _ else _) = _
    split_ifs <;> rfl

theorem bRespond_ignoresWaiting (bid : TxnId) (bresp : BitVec 2) : IgnoresWaiting (bRespond bid bresp) := by
  intro w s
  unfold bRespond
  change (if !hasPending .write bid s then _ else if s.params.enforce_okay && bresp != 0 then _ else _) = _
  split_ifs <;> rfl

theorem rDriveReady_ignoresWaiting : IgnoresWaiting fun s => .ok (rDriveReady s) := fun _ _ => rfl

theorem bDriveReady_ignoresWaiting : IgnoresWaiting fun s => .ok (bDriveReady s) := fun _ _ => rfl

theorem arStep_ignoresWaiting (inp : Inputs) : IgnoresWaiting (arStep inp) :=
  .ite (c := (arAccepted · inp)) (fun _ _ => rfl) (.bind arAcceptFront_ignoresWaiting arDrive_ignoresWaiting)
    arDrive_ignoresWaiting

theorem awStep_ignoresWaiting (inp : Inputs) : IgnoresWaiting (awStep inp) :=
  .ite (c := (awAccepted · inp)) (fun _ _ => rfl) (.bind awAcceptFront_ignoresWaiting awDrive_ignoresWaiting)
    awDrive_ignoresWaiting

theorem wStep_ignoresWaiting (inp : Inputs) : IgnoresWaiting (wStep inp) :=
  .ite (c := (wAccepted · inp)) (fun _ _ => rfl) (.bind wAdvance_ignoresWaiting wDrive_ignoresWaiting)
    wDrive_ignoresWaiting

theorem rStep_ignoresWaiting (inp : Inputs) (words : List Nat) : IgnoresWaiting (rStep inp words) :=
  .ite (c := (rAccepted · inp)) (fun _ _ => rfl)
    (.bind (rCollect_ignoresWaiting inp.rid words)
      (.ite (c := fun _ => inp.rlast) (fun _ _ => rfl) (.bind rPublish_ignoresWaiting rDriveReady_ignoresWaiting)
        rDriveReady_ignoresWaiting))
    rDriveReady_ignoresWaiting

theorem bStep_ignoresWaiting (inp : Inputs) : IgnoresWaiting (bStep inp) :=
  .ite (c := (bAccepted · inp)) (fun _ _ => rfl)
    (.bind (bRespond_ignoresWaiting inp.bid inp.bresp) bDriveReady_ignoresWaiting) bDriveReady_ignoresWaiting

theorem tickMachines_ignoresWaiting (inp : Inputs) (words : List Nat) : IgnoresWaiting (tickMachines inp words) :=
  have har := arStep_ignoresWaiting inp
  have haw := awStep_ignoresWaiting inp
  have hr := rStep_ignoresWaiting inp words
  have hb := bStep_ignoresWaiting inp
  have hw := wStep_ignoresWaiting inp
  .ite (c := fun s => s.params.same_tick_visible) (fun _ _ => rfl)
    (har.bind (haw.bind (hr.bind (hb.bind hw)))) (hr.bind (hb.bind (hw.bind (har.bind haw))))

/-! ## The tick -/

theorem pollWaiting_of_none {s : State} (hwait : s.waiting = none) : pollWaiting s = s := by
  simp only [pollWaiting, hwait]

/-- A tick that raises nothing while a wrapper waits is the tick without the wrapper, and then the poll. -/
theorem execTick_while_waiting {inp : Inputs} {s t : State} (hrun : running s = true)
    (h : execTick inp (withWaiting none s) = .next t) (hfault : t.fault = none) :
    execTick inp s = .next (pollWaiting (withWaiting s.waiting t)) := by
  have hrun' : running (withWaiting none s) = true := hrun
  have hwords : snapshotWords (withWaiting none s) inp.rdata = snapshotWords s inp.rdata := rfl
  simp only [execTick, hrun, hrun', hwords, Bool.not_true, Bool.false_eq_true, if_false] at h ⊢
  cases hpresented : snapshotWords s inp.rdata with
  | none => simp [hpresented] at h
  | some words =>
    have hsame : tickMachines inp words s = (tickMachines inp words (withWaiting none s)).map (withWaiting s.waiting) :=
      tickMachines_ignoresWaiting inp words s.waiting (withWaiting none s)
    simp only [hpresented] at h ⊢
    cases hdone : tickMachines inp words (withWaiting none s) with
    | error e =>
      rw [hdone] at h
      obtain hok | ⟨v, -, rfl⟩ := settle_next h
      · cases hok
      · cases hfault
    | ok u =>
      have hnone : u.waiting = none := (tickMachines_ignoresWaiting inp words).waiting_eq hdone
      simp only [hdone, pollWaiting_of_none hnone] at h
      cases h
      rw [hsame, hdone]
      rfl

/-- Settles O31: the poll after the tick is a RECV_READ. -/
theorem readLoopIsTickThenRecvRead : Obligations.ReadLoopIsTickThenRecvRead := by
  intro s t u inp id hstarted hnone hwait h hfault hrecv
  have htick : exec (.tick inp) s = .next (pollWaiting (withWaiting s.waiting t)) :=
    execTick_while_waiting ((running_iff s).2 ⟨hstarted, hnone⟩) h hfault
  rw [htick, hwait]
  exact congrArg _ (pollWaiting_read_eq t.reply hrecv)

/-- Settles O32: the poll after the tick is a RECV_WRITE. -/
theorem writeLoopIsTickThenRecvWrite : Obligations.WriteLoopIsTickThenRecvWrite := by
  intro s t u inp id hstarted hnone hwait h hfault hrecv
  have htick : exec (.tick inp) s = .next (pollWaiting (withWaiting s.waiting t)) :=
    execTick_while_waiting ((running_iff s).2 ⟨hstarted, hnone⟩) h hfault
  rw [htick, hwait]
  exact congrArg _ (pollWaiting_write_eq t.reply hrecv)

end Sys2Proof.Machine
end

section
/-!
PROOFS. A TICK and its five events (46_cycle_step.md R190 to R196). An event selected by the register of its machine is
one step of that machine, and the steps before it in a tick leave that register as the snapshot had it (R191); so
performing the selected events in any order runs the five machines in that order, up to what is recorded of a violation.
-/

namespace Sys2Proof.Machine

/-! ## A machine that does not run (R190, R196) -/

section
variable {s : State}

theorem channelEvent_of_stopped (hstop : running s = false) (sel : Bool) (event : State → Except Halt State) :
    channelEvent sel event s = .next s := by
  simp [channelEvent, hstop]

theorem dataEvent_of_stopped (hstop : running s = false) (sel : Bool) (rdata : Nat)
    (event : List Nat → State → Except Halt State) : dataEvent sel rdata event s = .next s := by
  simp [dataEvent, hstop]

theorem execTick_of_stopped (hstop : running s = false) (inp : Inputs) : execTick inp s = .next s := by
  simp [execTick, hstop]

/-- Before INIT and after a fault nothing but a host command or RESET changes anything. -/
theorem exec_of_stopped {i : Instr} (hhost : portOf i ≠ .host) (hreset : i ≠ .reset) (hstop : running s = false) :
    exec i s = .next s := by
  cases i with
  | sendRead | recvRead | sendWrite | recvWrite | read | write | init | construct => exact absurd rfl hhost
  | reset => exact absurd rfl hreset
  | tick inp => exact execTick_of_stopped hstop inp
  | rBeat | rLast => exact dataEvent_of_stopped hstop _ _ _
  | _ => apply channelEvent_of_stopped hstop

theorem running_of_fault {v : FaultRecord} (hfault : s.fault = some v) : running s = false := by
  simp [running, hfault]

/-- After a violation the gate is shut, whether or not a wrapper waits as well. -/
theorem commandGate_of_fault {v : FaultRecord} (hfault : s.fault = some v) : ∃ r, commandGate s = some r := by
  cases hgate : commandGate s with
  | some r => exact ⟨r, rfl⟩
  | none => simp [(commandGate_none.1 hgate).2] at hfault

/-- Every host command asks the gate first. -/
theorem exec_host_of_gate {i : Instr} {r : Refusal} (hhost : portOf i = .host) (hgate : commandGate s = some r) :
    exec i s = .refused r := by
  have honInstance (cmd : BusConfig → Result) : onInstance s cmd = .refused r := by simp only [onInstance, hgate]
  cases i with
  | construct dwBits awBits =>
    change execConstruct dwBits awBits s = _
    simp only [execConstruct, hgate]
  | sendRead | recvRead | sendWrite | recvWrite | read | write | init => exact honInstance _
  | _ => cases hhost

end

/-- Settles O43: the gate refuses every host command, and of the other operations all but RESET change nothing. -/
theorem faultedMachineOnlyResets : Obligations.FaultedMachineOnlyResets := by
  intro s v hfault
  have hstop := running_of_fault hfault
  obtain ⟨r, hgate⟩ := commandGate_of_fault hfault
  refine ⟨execTick_of_stopped hstop, fun i hhost => ⟨r, exec_host_of_gate hhost hgate⟩, fun i t h hleft => ?_⟩
  by_contra hreset
  by_cases hhost : portOf i = .host
  · cases (exec_host_of_gate hhost hgate).symm.trans h
  · cases (exec_of_stopped hhost hreset hstop).symm.trans h
    exact hleft hfault

/-! ## A selected event is one step of its machine -/

/-- The five channels, each with one machine. -/
inductive Channel where
  | ar | r | aw | w | b

/-- The event that the snapshot selects on a channel. -/
def selectedEvent (s : State) (inp : Inputs) : Channel → Instr
  | .ar => arEvent s inp
  | .r => rEvent s inp
  | .aw => awEvent s inp
  | .w => wEvent s inp
  | .b => bEvent s inp

/-- The step of a channel's machine. -/
def machine (inp : Inputs) (words : List Nat) : Channel → State → Except Halt State
  | .ar => arStep inp
  | .r => rStep inp words
  | .aw => awStep inp
  | .w => wStep inp
  | .b => bStep inp

/-- The register by which a channel's event is selected, its machine's own valid or ready. -/
def selector : Channel → State → Bool
  | .ar, s => s.arvalid_q
  | .r, s => s.rready_q
  | .aw, s => s.awvalid_q
  | .w, s => s.wvalid_q
  | .b, s => s.bready_q

section
variable {s : State} {inp : Inputs} {words : List Nat}

/-- A selected event of a running machine ends as its machine's step does. -/
theorem channelEvent_eq_settle {sel : Bool} {event step : State → Except Halt State} (hrun : running s = true)
    (hsel : sel = true) (hstep : event s = step s) : channelEvent sel event s = settle s (step s) := by
  simp [channelEvent, hrun, hsel, hstep]

theorem dataEvent_eq_settle_of_words {sel : Bool} {rdata : Nat} {event : List Nat → State → Except Halt State}
    {step : State → Except Halt State} (hrun : running s = true) (hwords : snapshotWords s rdata = some words)
    (hsel : sel = true) (hstep : event words s = step s) : dataEvent sel rdata event s = settle s (step s) := by
  simpa [dataEvent, hrun, hwords] using channelEvent_eq_settle hrun hsel hstep

theorem exec_arEvent (hrun : running s = true) : exec (arEvent s inp) s = settle s (arStep inp s) := by
  unfold arEvent
  split
  · next hvalid =>
    apply channelEvent_eq_settle (step := arStep inp) hrun <;> simp [arStep, arAccepted, hvalid]
  · next hvalid hready =>
    apply channelEvent_eq_settle (step := arStep inp) hrun <;> simp [arStep, arAccepted, hvalid, hready]
  · next hvalid hready =>
    apply channelEvent_eq_settle (step := arStep inp) hrun <;> simp [arStep, arAccepted, hvalid, hready]

theorem exec_awEvent (hrun : running s = true) : exec (awEvent s inp) s = settle s (awStep inp s) := by
  unfold awEvent
  split
  · next hvalid =>
    apply channelEvent_eq_settle (step := awStep inp) hrun <;> simp [awStep, awAccepted, hvalid]
  · next hvalid hready =>
    apply channelEvent_eq_settle (step := awStep inp) hrun <;> simp [awStep, awAccepted, hvalid, hready]
  · next hvalid hready =>
    apply channelEvent_eq_settle (step := awStep inp) hrun <;> simp [awStep, awAccepted, hvalid, hready]

theorem exec_wEvent (hrun : running s = true) : exec (wEvent s inp) s = settle s (wStep inp s) := by
  unfold wEvent
  split
  · next hvalid =>
    apply channelEvent_eq_settle (step := wStep inp) hrun <;> simp [wStep, wAccepted, hvalid]
  · next hvalid hready =>
    apply channelEvent_eq_settle (step := wStep inp) hrun <;> simp [wStep, wAccepted, hvalid, hready]
  · next hvalid hready =>
    apply channelEvent_eq_settle (step := wStep inp) hrun <;> simp [wStep, wAccepted, hvalid, hready]

theorem exec_bEvent (hrun : running s = true) : exec (bEvent s inp) s = settle s (bStep inp s) := by
  unfold bEvent
  split
  · next hready =>
    apply channelEvent_eq_settle (step := bStep inp) hrun <;> simp [bStep, bAccepted, hready]
  · next hready hvalid =>
    apply channelEvent_eq_settle (step := bStep inp) hrun <;> simp [bStep, bAccepted, hready, hvalid]
  · next hready hvalid =>
    apply channelEvent_eq_settle (step := bStep inp) hrun <;> simp [bStep, bAccepted, hready, hvalid]

theorem exec_rEvent (hrun : running s = true) (hwords : snapshotWords s inp.rdata = some words) :
    exec (rEvent s inp) s = settle s (rStep inp words s) := by
  unfold rEvent
  split
  · next hready =>
    apply channelEvent_eq_settle (step := rStep inp words) hrun <;> simp [rStep, rAccepted, hready]
  · next hready hvalid =>
    apply channelEvent_eq_settle (step := rStep inp words) hrun <;> simp [rStep, rAccepted, hready, hvalid]
  · next hready hvalid hlast =>
    exact dataEvent_eq_settle_of_words hrun hwords hready (by simp [rStep, rAccepted, hready, hvalid, hlast])
  · next hready hvalid hlast =>
    exact dataEvent_eq_settle_of_words hrun hwords hready (by simp [rStep, rAccepted, hready, hvalid, hlast])

/-- The selection reads nothing of the state but the machine's own register (30_encoding.md R79 to R83). -/
theorem selectedEvent_congr {t : State} {c : Channel} (h : selector c t = selector c s) :
    selectedEvent s inp c = selectedEvent t inp c := by
  cases c <;> simp only [selector] at h
  · simp only [selectedEvent, arEvent, h]
  · simp only [selectedEvent, rEvent, h]
  · simp only [selectedEvent, awEvent, h]
  · simp only [selectedEvent, wEvent, h]
  · simp only [selectedEvent, bEvent, h]

theorem exec_selectedEvent {c : Channel} (hrun : running s = true) (hwords : snapshotWords s inp.rdata = some words) :
    exec (selectedEvent s inp c) s = settle s (machine inp words c s) := by
  cases c with
  | ar => exact exec_arEvent hrun
  | r => exact exec_rEvent hrun hwords
  | aw => exact exec_awEvent hrun
  | w => exact exec_wEvent hrun
  | b => exact exec_bEvent hrun

/-- A step of one machine leaves the other machines' selections, what the bus presents and whether the block runs as
they were (R191). -/
theorem machine_keeps {t : State} {c : Channel} (h : machine inp words c s = .ok t) :
    running t = running s ∧ t.cfg = s.cfg ∧ ∀ d, d ≠ c → selector d t = selector d s := by
  cases c with
  | ar =>
    obtain ⟨q, p, v, a, l, i, rfl⟩ := arStep_writes h
    exact ⟨rfl, rfl, fun d hd => by cases d <;> simp [selector] at hd ⊢⟩
  | r =>
    obtain ⟨p, c, d, i, rfl⟩ := rStep_writes h
    exact ⟨rfl, rfl, fun d hd => by cases d <;> simp [selector] at hd ⊢⟩
  | aw =>
    obtain ⟨q, p, w, v, a, l, i, rfl⟩ := awStep_writes h
    exact ⟨rfl, rfl, fun d hd => by cases d <;> simp [selector] at hd ⊢⟩
  | w =>
    obtain ⟨q, n, v, d, l, rfl⟩ := wStep_writes h
    exact ⟨rfl, rfl, fun d hd => by cases d <;> simp [selector] at hd ⊢⟩
  | b =>
    obtain ⟨p, c, rfl⟩ := bStep_writes h
    exact ⟨rfl, rfl, fun d hd => by cases d <;> simp [selector] at hd ⊢⟩

end

/-! ## Outcomes that are alike -/

section
variable {a b c : Result} {t : State}

theorem Alike.next_cases (h : Alike (.next t) b) :
    b = .next t ∨ ∃ u, b = .next u ∧ t.fault ≠ none ∧ t.fault = u.fault := by
  obtain rfl | ⟨t', u, ht, hb, hne, hfault⟩ := h
  · exact .inl rfl
  · cases ht
    exact .inr ⟨u, hb, hne, hfault⟩

theorem Alike.next_of_noFault (h : Alike (.next t) b) (hnone : t.fault = none) : b = .next t := by
  obtain hb | ⟨u, -, hne, -⟩ := h.next_cases
  · exact hb
  · exact absurd hnone hne

theorem Alike.next_fault (h : Alike (.next t) b) : ∃ u, b = .next u ∧ u.fault = t.fault := by
  obtain hb | ⟨u, hb, -, hfault⟩ := h.next_cases
  · exact ⟨t, hb, rfl⟩
  · exact ⟨u, hb, hfault.symm⟩

theorem Alike.eq_fault {f : Fault} (h : Alike (.fault f) b) : b = .fault f := by
  obtain rfl | ⟨t, u, ht, -⟩ := h
  · rfl
  · cases ht

theorem Alike.eq_refused {r : Refusal} (h : Alike (.refused r) b) : b = .refused r := by
  obtain rfl | ⟨t, u, ht, -⟩ := h
  · rfl
  · cases ht

theorem Alike.trans (h : Alike a b) (h' : Alike b c) : Alike a c := by
  obtain rfl | ⟨t, u, rfl, rfl, hne, hfault⟩ := h
  · exact h'
  · obtain ⟨w, rfl, hw⟩ := h'.next_fault
    exact .inr ⟨t, w, rfl, rfl, hne, hfault.trans hw.symm⟩

/-- The state from which an event is said to end matters to a violation only, and not to its record. -/
theorem settle_alike (s u : State) (r : Except Halt State) : Alike (settle s r) (settle u r) := by
  cases r with
  | ok t => exact .inl rfl
  | error e =>
    cases e with
    | violation v => exact .inr ⟨_, _, rfl, rfl, nofun, rfl⟩
    | corrupt f => exact .inl rfl

theorem settle_ne_refused (s : State) (r : Except Halt State) (why : Refusal) : settle s r ≠ .refused why := by
  cases r with
  | ok t => nofun
  | error e => cases e <;> nofun

end

/-! ## Events one after another are machine steps one after another -/

/-- The steps of the machines of the given channels, one after another. -/
def runMachines (inp : Inputs) (words : List Nat) : List Channel → State → Except Halt State
  | [], s => .ok s
  | c :: cs, s => (machine inp words c s).bind (runMachines inp words cs)

section
variable {s : State} {inp : Inputs} {words : List Nat}

theorem portOf_selectedEvent (c : Channel) :
    portOf (selectedEvent s inp c) ≠ .host ∧ selectedEvent s inp c ≠ .reset := by
  have hport : portOf (selectedEvent s inp c) ≠ .host ∧ portOf (selectedEvent s inp c) ≠ .clock := by
    cases c <;> simp [selectedEvent]
  exact ⟨hport.1, fun h => hport.2 (by rw [h]; rfl)⟩

theorem performAll_of_stopped (cs : List Channel) {u : State} (hstop : running u = false) :
    performAll (cs.map (selectedEvent s inp)) u = .next u := by
  induction cs with
  | nil => rfl
  | cons c cs ih =>
    obtain ⟨hhost, hreset⟩ := portOf_selectedEvent (s := s) (inp := inp) c
    simp only [List.map_cons, performAll, exec_of_stopped hhost hreset hstop, ih]

/-- The events that the snapshot `s` selects on channels whose machines have not stepped yet in `u`. -/
theorem performAll_selectedEvents (cs : List Channel) : ∀ u : State, cs.Nodup → running u = true →
    snapshotWords u inp.rdata = some words → (∀ c ∈ cs, selector c u = selector c s) →
    Alike (performAll (cs.map (selectedEvent s inp)) u) (settle u (runMachines inp words cs u)) := by
  induction cs with
  | nil => exact fun _ _ _ _ _ => .inl rfl
  | cons c cs ih =>
    intro u hnodup hrun hwords hsame
    obtain ⟨hc, hcs⟩ := List.nodup_cons.1 hnodup
    have hexec : exec (selectedEvent s inp c) u = settle u (machine inp words c u) :=
      selectedEvent_congr (hsame c List.mem_cons_self) ▸ exec_selectedEvent hrun hwords
    simp only [List.map_cons, performAll, hexec, runMachines]
    cases hstep : machine inp words c u with
    | ok v =>
      obtain ⟨hrunv, hcfg, hkept⟩ := machine_keeps hstep
      refine (ih v hcs (hrunv.trans hrun) ((snapshotWords_congr hcfg _).trans hwords) fun d hd => ?_).trans
        (settle_alike v u _)
      exact (hkept d fun h => hc (h ▸ hd)).trans (hsame d (List.mem_cons_of_mem c hd))
    | error e =>
      cases e with
      | violation v => exact .inl (performAll_of_stopped cs (running_of_fault (takeViolation_fault v u)))
      | corrupt f => exact .inl rfl

/-! ## The tick -/

/-- The order in which a tick runs the machines (R190, R193, D4). -/
def tickOrder (s : State) : List Channel :=
  if s.params.same_tick_visible then [.ar, .aw, .r, .b, .w] else [.r, .b, .w, .ar, .aw]

theorem tickOrder_nodup (s : State) : (tickOrder s).Nodup := by
  unfold tickOrder
  split <;> simp

theorem selectedEvents_eq_map (s : State) (inp : Inputs) :
    selectedEvents s inp = (tickOrder s).map (selectedEvent s inp) := by
  unfold selectedEvents tickOrder
  split <;> rfl

theorem bind_ok_self {ε α : Type} (x : Except ε α) : x.bind .ok = x := by cases x <;> rfl

theorem tickMachines_eq_runMachines (inp : Inputs) (words : List Nat) (s : State) :
    tickMachines inp words s = runMachines inp words (tickOrder s) s := by
  unfold tickMachines tickOrder
  split <;> simp only [runMachines, machine, bind_ok_self]

/-- Without a wrapper a tick of a running machine ends as its five steps do. -/
theorem execTick_eq_settle (hrun : running s = true) (hwait : s.waiting = none)
    (hwords : snapshotWords s inp.rdata = some words) :
    execTick inp s = settle s (tickMachines inp words s) := by
  simp only [execTick, hrun, hwords, Bool.not_true, Bool.false_eq_true, if_false]
  cases hdone : tickMachines inp words s with
  | error e => rfl
  | ok t =>
    have hkept : t.waiting = none := ((tickMachines_ignoresWaiting inp words).waiting_eq hdone).trans hwait
    simp only [pollWaiting_of_none hkept, settle]

/-- Whatever fits the bus is presented as some words. -/
theorem exists_snapshotWords (hfits : inp.rdata < 2 ^ DW s) : ∃ words, snapshotWords s inp.rdata = some words := by
  obtain ⟨words, hpack, -⟩ := exists_pack_unpack hfits
  exact ⟨words, (snapshotWords_of_lt hfits).trans hpack⟩

end

/-- Settles O35: the selected events run the machines in the tick's own order, and end alike. -/
theorem tickPerformsTheFiveSelectedEvents : Obligations.TickPerformsTheFiveSelectedEvents := by
  refine ⟨fun s inp hstop => execTick_of_stopped ?_ inp, fun s inp hstarted hnone hwait hfits => ?_⟩
  · refine Bool.eq_false_iff.2 fun hrun => ?_
    obtain ⟨hstarted, hnone⟩ := (running_iff s).1 hrun
    simp [hstarted, hnone] at hstop
  · have hrun := (running_iff s).2 ⟨hstarted, hnone⟩
    obtain ⟨words, hwords⟩ := exists_snapshotWords hfits
    have halike : Alike (performAll (selectedEvents s inp) s) (exec (.tick inp) s) := by
      change Alike _ (execTick inp s)
      rw [execTick_eq_settle hrun hwait hwords, tickMachines_eq_runMachines, selectedEvents_eq_map]
      exact performAll_selectedEvents _ s (tickOrder_nodup s) hrun hwords fun _ _ => rfl
    refine ⟨fun t h => ?_, fun t v h hfault => ?_, fun f h => ?_, fun r h => ?_⟩ <;> rw [h] at halike
    · exact halike.next_of_noFault
    · rw [← hfault]
      exact halike.next_fault
    · exact halike.eq_fault
    · exact settle_ne_refused s _ r ((execTick_eq_settle hrun hwait hwords).symm.trans halike.eq_refused)

end Sys2Proof.Machine
end

section
/-!
PROOFS. The order of a tick (46_cycle_step.md R193, R194). The read machines and the write machines work on disjoint
items of the state, so two of them that follow one another give the same state in the other order.
-/

namespace Sys2Proof.Machine

/-! ## The sides of the state -/

/-- `s` with the items of the read side that `r` has (10_state.md R22 to R28). -/
def withReadSide (r s : State) : State :=
  { s with
    ar_queue := r.ar_queue, rd_pending := r.rd_pending, rd_completed := r.rd_completed
    r_burst_data := r.r_burst_data, r_burst_id := r.r_burst_id
    arvalid_q := r.arvalid_q, araddr_q := r.araddr_q, arlen_q := r.arlen_q, arid_q := r.arid_q
    rready_q := r.rready_q }

/-- `s` with the items of the write side that `w` has (R30 to R37). -/
def withWriteSide (w s : State) : State :=
  { s with
    aw_queue := w.aw_queue, wr_pending := w.wr_pending, wr_completed := w.wr_completed
    w_queue := w.w_queue, w_idx := w.w_idx
    awvalid_q := w.awvalid_q, awaddr_q := w.awaddr_q, awlen_q := w.awlen_q, awid_q := w.awid_q
    wvalid_q := w.wvalid_q, wdata_q := w.wdata_q, wlast_q := w.wlast_q, bready_q := w.bready_q }

/-- The event does the same whatever stands on the side that `withOther` puts in place, and leaves it as it is. -/
def Ignores (withOther : State → State → State) (event : State → Except Halt State) : Prop :=
  ∀ o s, event (withOther o s) = (event s).map (withOther o)

section
variable {withOther : State → State → State} {f g : State → Except Halt State}

theorem Ignores.bind (hf : Ignores withOther f) (hg : Ignores withOther g) :
    Ignores withOther fun s => (f s).bind g := by
  intro o s
  simp only [hf o s]
  cases f s with
  | error e => rfl
  | ok t => exact hg o t

/-- A choice that the other side has no part in. -/
theorem Ignores.ite {c : State → Bool} (hc : ∀ o s, c (withOther o s) = c s) (hf : Ignores withOther f)
    (hg : Ignores withOther g) : Ignores withOther fun s => if c s then f s else g s := by
  intro o s
  simp only [hc]
  split
  · exact hf o s
  · exact hg o s

end

/-! ## The machines ignore the other side -/

theorem arDrive_ignoresWriteSide : Ignores withWriteSide fun s => .ok (arDrive s) := by
  intro w s
  refine congrArg Except.ok ?_
  unfold arDrive
  cases hq : s.ar_queue <;> simp [withWriteSide, hq]

theorem arStep_ignoresWriteSide (inp : Inputs) : Ignores withWriteSide (arStep inp) := by
  refine .ite (c := (arAccepted · inp)) (fun _ _ => rfl) (.bind (fun w s => ?_) arDrive_ignoresWriteSide)
    arDrive_ignoresWriteSide
  unfold arAcceptFront
  cases hq : s.ar_queue <;> simp [withWriteSide, hq, pushPending, Except.map]

theorem rCollect_ignoresWriteSide (rid : TxnId) (words : List Nat) : Ignores withWriteSide (rCollect rid words) := by
  intro w s
  unfold rCollect
  change (if s.r_burst_data = [] then if hasPending .read rid s then _ else _
    else if rid = s.r_burst_id then _ else _) = _
  split_ifs <;> rfl

theorem rPublish_ignoresWriteSide : Ignores withWriteSide rPublish := by
  intro w s
  have hfront : frontPending .read (withWriteSide w s).r_burst_id (withWriteSide w s) =
      frontPending .read s.r_burst_id s := rfl
  simp only [rPublish, hfront]
  cases frontPending .read s.r_burst_id s with
  | none => rfl
  | some n =>
    dsimp only
    change (if n = s.r_burst_data.length then _ else _) = _
    split_ifs <;> rfl

theorem rStep_ignoresWriteSide (inp : Inputs) (words : List Nat) : Ignores withWriteSide (rStep inp words) := by
  have hready : Ignores withWriteSide fun s => .ok (rDriveReady s) := fun _ _ => rfl
  exact .ite (c := (rAccepted · inp)) (fun _ _ => rfl)
    (.bind (rCollect_ignoresWriteSide inp.rid words)
      (.ite (c := fun _ => inp.rlast) (fun _ _ => rfl) (.bind rPublish_ignoresWriteSide hready) hready))
    hready

theorem awDrive_ignoresReadSide : Ignores withReadSide fun s => .ok (awDrive s) := by
  intro r s
  refine congrArg Except.ok ?_
  unfold awDrive
  cases hq : s.aw_queue <;> simp [withReadSide, hq]

theorem awStep_ignoresReadSide (inp : Inputs) : Ignores withReadSide (awStep inp) := by
  refine .ite (c := (awAccepted · inp)) (fun _ _ => rfl) (.bind (fun r s => ?_) awDrive_ignoresReadSide)
    awDrive_ignoresReadSide
  unfold awAcceptFront
  cases hq : s.aw_queue <;> simp [withReadSide, hq, pushPending, beatBytes, Except.map]

theorem wDrive_ignoresReadSide : Ignores withReadSide wDrive := by
  intro r s
  have hwidth : DW (withReadSide r s) = DW s := rfl
  unfold wDrive
  rw [hwidth]
  cases hq : s.w_queue with
  | nil => simp [withReadSide, hq, Except.map]
  | cons b q =>
    cases hv : b.beats[s.w_idx]? with
    | none => simp [withReadSide, hq, hv, Except.map]
    | some v => cases hp : pack v (DW s) <;> simp [withReadSide, hq, hv, hp, Except.map]

theorem wAdvance_ignoresReadSide : Ignores withReadSide wAdvance := by
  intro r s
  unfold wAdvance
  cases hq : s.w_queue with
  | nil => simp [withReadSide, hq, Except.map]
  | cons b q => by_cases hl : s.w_idx + 1 = b.beats.length <;> simp [withReadSide, hq, hl, Except.map]

theorem wStep_ignoresReadSide (inp : Inputs) : Ignores withReadSide (wStep inp) :=
  .ite (c := (wAccepted · inp)) (fun _ _ => rfl) (.bind wAdvance_ignoresReadSide wDrive_ignoresReadSide)
    wDrive_ignoresReadSide

theorem bStep_ignoresReadSide (inp : Inputs) : Ignores withReadSide (bStep inp) := by
  have hready : Ignores withReadSide fun s => .ok (bDriveReady s) := fun _ _ => rfl
  refine .ite (c := (bAccepted · inp)) (fun _ _ => rfl) (.bind (fun r s => ?_) hready) hready
  unfold bRespond
  change (if !hasPending .write inp.bid s then _ else if s.params.enforce_okay && inp.bresp != 0 then _ else _) = _
  split_ifs <;> rfl

/-! ## Two machines of different sides in either order -/

/-- The channel is one of the read side. -/
def Channel.isRead : Channel → Bool
  | .ar | .r => true
  | .aw | .w | .b => false

section
variable {inp : Inputs} {words : List Nat} {c d : Channel} {s t : State}

theorem machine_read_ignoresWriteSide (hc : c.isRead = true) : Ignores withWriteSide (machine inp words c) := by
  cases c with
  | ar => exact arStep_ignoresWriteSide inp
  | r => exact rStep_ignoresWriteSide inp words
  | aw | w | b => cases hc

theorem machine_write_ignoresReadSide (hc : c.isRead = false) : Ignores withReadSide (machine inp words c) := by
  cases c with
  | aw => exact awStep_ignoresReadSide inp
  | w => exact wStep_ignoresReadSide inp
  | b => exact bStep_ignoresReadSide inp
  | ar | r => cases hc

theorem machine_read_writes (hc : c.isRead = true) (h : machine inp words c s = .ok t) : t = withReadSide t s := by
  cases c with
  | ar =>
    obtain ⟨q, p, v, a, l, i, rfl⟩ := arStep_writes h
    rfl
  | r =>
    obtain ⟨p, c, d, i, rfl⟩ := rStep_writes h
    rfl
  | aw | w | b => cases hc

theorem machine_write_writes (hc : c.isRead = false) (h : machine inp words c s = .ok t) : t = withWriteSide t s := by
  cases c with
  | aw =>
    obtain ⟨q, p, w, v, a, l, i, rfl⟩ := awStep_writes h
    rfl
  | w =>
    obtain ⟨q, n, v, d, l, rfl⟩ := wStep_writes h
    rfl
  | b =>
    obtain ⟨p, c, rfl⟩ := bStep_writes h
    rfl
  | ar | r => cases hc

/-- A read machine that follows a write machine can go before it: either order gives the state with the read side of
the one and the write side of the other (R194). -/
theorem machines_swap {u : State} (hc : c.isRead = false) (hd : d.isRead = true)
    (hwrite : machine inp words c s = .ok u) (hread : machine inp words d u = .ok t) :
    ∃ v, machine inp words d s = .ok v ∧ machine inp words c v = .ok t := by
  rw [machine_write_writes hc hwrite, machine_read_ignoresWriteSide hd u s] at hread
  cases hfirst : machine inp words d s with
  | error e => simp [hfirst, Except.map] at hread
  | ok v =>
    obtain rfl : withWriteSide u v = t := by simpa [hfirst, Except.map] using hread
    refine ⟨v, rfl, ?_⟩
    have hv := machine_read_writes hd hfirst
    have hu := machine_write_writes hc hwrite
    calc machine inp words c v
        = machine inp words c (withReadSide v s) := congrArg _ hv
      _ = .ok (withReadSide v u) := by rw [machine_write_ignoresReadSide hc v s, hwrite]; rfl
      _ = .ok (withReadSide v (withWriteSide u s)) := by rw [← hu]
      _ = .ok (withWriteSide u (withReadSide v s)) := rfl
      _ = .ok (withWriteSide u v) := by rw [← hv]

/-- The same anywhere in an order of the machines. -/
theorem runMachines_swap (hc : c.isRead = false) (hd : d.isRead = true) (before : List Channel) {after : List Channel} :
    ∀ {s : State}, runMachines inp words (before ++ c :: d :: after) s = .ok t →
      runMachines inp words (before ++ d :: c :: after) s = .ok t := by
  induction before with
  | nil =>
    intro s h
    simp only [List.nil_append, runMachines, bind_ok_iff] at h ⊢
    obtain ⟨u, hwrite, w, hread, hafter⟩ := h
    obtain ⟨v, hfirst, hsecond⟩ := machines_swap hc hd hwrite hread
    exact ⟨v, hfirst, w, hsecond, hafter⟩
  | cons e before ih =>
    intro s h
    simp only [List.cons_append, runMachines, bind_ok_iff] at h ⊢
    obtain ⟨u, hu, hrest⟩ := h
    exact ⟨u, hu, ih hrest⟩

end

/-- Settles O36: the read machines are moved one after another in front of the write machines that a tick runs later. -/
theorem tickOrderBetweenTheSidesDoesNotMatter : Obligations.TickOrderBetweenTheSidesDoesNotMatter := by
  intro s t inp hstarted hnone hwait hfits hvisible h hfault
  have hrun := (running_iff s).2 ⟨hstarted, hnone⟩
  obtain ⟨words, hwords⟩ := exists_snapshotWords hfits
  have halike := performAll_selectedEvents (s := s) [.b, .w, .aw, .r, .ar] s (by simp) hrun hwords fun _ _ => rfl
  have hwriteFirst : runMachines inp words [.b, .w, .aw, .r, .ar] s = .ok t := by
    change Alike (performAll [bEvent s inp, wEvent s inp, awEvent s inp, rEvent s inp, arEvent s inp] s) _ at halike
    rw [h] at halike
    obtain hok | ⟨v, -, rfl⟩ := settle_next (halike.next_of_noFault hfault)
    · exact hok
    · cases hfault
  have hmoved : runMachines inp words [.r, .b, .w, .ar, .aw] s = .ok t := by
    have h1 := runMachines_swap rfl rfl [.b, .w] hwriteFirst
    have h2 := runMachines_swap rfl rfl [.b] h1
    have h3 := runMachines_swap rfl rfl [] h2
    exact runMachines_swap rfl rfl [.r, .b, .w] h3
  have horder : tickOrder s = [.r, .b, .w, .ar, .aw] := by simp [tickOrder, hvisible]
  change execTick inp s = _
  rw [execTick_eq_settle hrun hwait hwords, tickMachines_eq_runMachines, horder, hmoved]
  rfl

end Sys2Proof.Machine
end

section
/-!
PROOFS. A TICK in a state that meets the invariants (46_cycle_step.md R192, R198). No machine then takes from an empty
queue, R and B find outstanding what the peer's contract says of them, and so every step completes; in a quiescent state
every step but the two ready drives writes what is there already.
-/

namespace Sys2Proof.Machine

section
variable {s u t : State} {inp : Inputs} {words : List Nat}

/-! ## The address machines and W complete -/

theorem arStep_completes (hout : arOutputs s) : ∃ t, arStep inp s = .ok t := by
  cases h : arStep inp s with
  | ok t => exact ⟨t, rfl⟩
  | error e =>
    obtain ⟨-, hnil, hvalid⟩ := arStep_error h
    obtain ⟨r, q, hq, -⟩ := hout.1 hvalid
    cases hnil.symm.trans hq

theorem awStep_completes (hout : awOutputs s) : ∃ t, awStep inp s = .ok t := by
  cases h : awStep inp s with
  | ok t => exact ⟨t, rfl⟩
  | error e =>
    obtain ⟨-, hnil, hvalid⟩ := awStep_error h
    obtain ⟨r, q, hq, -⟩ := hout.1 hvalid
    cases hnil.symm.trans hq

/-- The index stands in the front burst (10_state.md R34), whose beats fit the bus. -/
theorem wDrive_completes (hg : Good (undriven s)) : ∃ t, wDrive s = .ok t := by
  cases hq : s.w_queue with
  | nil => exact ⟨_, wDrive_of_nil hq⟩
  | cons b q =>
    have hlt : s.w_idx < b.beats.length := hg.wIndex.2 b q hq
    obtain ⟨-, -, hfits⟩ := hg.bursts b (hq ▸ List.mem_cons_self)
    exact ⟨_, wDrive_of_cons hq (List.getElem?_eq_getElem hlt) (hfits _ (List.getElem_mem hlt))⟩

theorem wAdvance_completes (hout : wOutputs s) (hvalid : s.wvalid_q = true) : ∃ t, wAdvance s = .ok t := by
  obtain ⟨b, q, hq, -⟩ := hout.1 hvalid
  by_cases hfinal : s.w_idx + 1 = b.beats.length
  · exact ⟨_, wAdvance_of_final hq hfinal⟩
  · exact ⟨_, wAdvance_of_more hq hfinal⟩

theorem wStep_completes (hg : Good s) : ∃ t, wStep inp s = .ok t := by
  obtain ⟨hu, -, -, hout⟩ := (good_iff s).1 hg
  unfold wStep
  split
  · next hacc =>
    obtain ⟨u, hadvance⟩ := wAdvance_completes hout (Bool.and_eq_true_iff.1 hacc).1
    rw [hadvance]
    exact wDrive_completes (good_wAdvance hu hadvance)
  · exact wDrive_completes hu

/-! ## What R and B find outstanding, and that they complete -/

theorem rdPendingSeen_of_notVisible (h : s.params.same_tick_visible = false) (k : TxnId) :
    rdPendingSeen s inp k = s.rd_pending[k] := by
  unfold rdPendingSeen
  split
  · rfl
  · simp [h]

theorem wrPendingSeen_of_notVisible (h : s.params.same_tick_visible = false) (k : TxnId) :
    wrPendingSeen s inp k = s.wr_pending[k] := by
  unfold wrPendingSeen
  split
  · rfl
  · simp [h]

/-- With `SAME_TICK_VISIBLE` R finds what is outstanding after AR's step. -/
theorem arStep_rdPendingSeen (h : arStep inp s = .ok t) (hvisible : s.params.same_tick_visible = true) (k : TxnId) :
    t.rd_pending[k] = rdPendingSeen s inp k := by
  obtain ⟨hacc, u, hu, rfl⟩ | ⟨hacc, rfl⟩ := arStep_ok h
  · obtain ⟨r, q, hq, rfl⟩ := arAcceptFront_ok hu
    simp only [arDrive_rd_pending, pushPendingRead_rd_pending, pushSlot_get, rdPendingSeen, hq, hvisible, hacc,
      true_and]
    by_cases hk : k = r.id
    · simp [hk]
    · simp [hk, Ne.symm hk]
  · simp only [arDrive_rd_pending, rdPendingSeen, hacc]
    split <;> simp

/-- With `SAME_TICK_VISIBLE` B finds what is outstanding after AW's step. -/
theorem awStep_wrPendingSeen (h : awStep inp s = .ok t) (hvisible : s.params.same_tick_visible = true) (k : TxnId) :
    t.wr_pending[k] = wrPendingSeen s inp k := by
  obtain ⟨hacc, u, hu, rfl⟩ | ⟨hacc, rfl⟩ := awStep_ok h
  · obtain ⟨r, q, hq, rfl⟩ := awAcceptFront_ok hu
    simp only [awDrive_wr_pending, pushPendingWrite_wr_pending, pushSlot_get, wrPendingSeen, hq, hvisible, hacc,
      true_and]
    by_cases hk : k = r.id
    · simp [hk]
    · simp [hk, Ne.symm hk]
  · simp only [awDrive_wr_pending, wrPendingSeen, hacc]
    split <;> simp

/-- R completes on a beat that breaks none of the causes 1 to 3, in any state `u` of the tick from `s` in which R has
not stepped and what it finds outstanding is recorded. -/
theorem rStep_completes (hkept : readBeatKept s inp) (hready : u.rready_q = s.rready_q)
    (hdata : u.r_burst_data = s.r_burst_data) (hid : u.r_burst_id = s.r_burst_id)
    (hpending : u.rd_pending[inp.rid] = rdPendingSeen s inp inp.rid) : ∃ t, rStep inp words u = .ok t := by
  unfold rStep
  split
  · next hacc =>
    rw [rAccepted, hready] at hacc
    obtain ⟨hfirst, hlater, hlength⟩ := hkept hacc
    rw [← hpending, ← hdata] at hfirst hlength
    rw [← hid, ← hdata] at hlater
    rw [rCollect_of_passes hfirst hlater]
    change ∃ t, (if inp.rlast then _ else _) = _
    split
    · next hlast =>
      obtain ⟨ns, hslot⟩ := List.head?_eq_some_iff.1 (hlength hlast)
      rw [rPublish_of_length (s := withBeat inp.rid (unpack words (DW u)) u) hslot (by simp [withBeat])]
      exact ⟨_, rfl⟩
    · exact ⟨_, rfl⟩
  · exact ⟨_, rfl⟩

/-- B completes on a response that breaks neither cause 4 nor cause 5, in any such state. -/
theorem bStep_completes (hkept : responseKept s inp) (hready : u.bready_q = s.bready_q) (hparams : u.params = s.params)
    (hpending : u.wr_pending[inp.bid] = wrPendingSeen s inp inp.bid) : ∃ t, bStep inp u = .ok t := by
  unfold bStep
  split
  · next hacc =>
    rw [bAccepted, hready] at hacc
    obtain ⟨houtstanding, hokay⟩ := hkept hacc
    rw [← hpending] at houtstanding
    rw [← hparams] at hokay
    obtain ⟨n, ns, hslot⟩ := List.exists_cons_of_ne_nil houtstanding
    have hstatus : u.params.enforce_okay = false ∨ inp.bresp = 0 := by
      cases henforce : u.params.enforce_okay with
      | false => exact .inl rfl
      | true => exact .inr (hokay henforce)
    rw [bRespond_of_accepted hslot hstatus]
    exact ⟨_, rfl⟩
  · exact ⟨_, rfl⟩

/-! ## The tick completes -/

/-- Producers first (D4): R and B find what was recorded before the tick and what AR and AW have just recorded. -/
theorem tickMachines_completes_of_visible (hg : Good s) (hwords : unpack words (DW s) < 2 ^ DW s)
    (hread : readBeatKept s inp) (hresponse : responseKept s inp) (hvisible : s.params.same_tick_visible = true) :
    ∃ t, tickMachines inp words s = .ok t := by
  obtain ⟨s1, har⟩ := arStep_completes (inp := inp) hg.arOut
  have hg1 := good_arStep hg har
  obtain ⟨q1, p1, v1, a1, l1, i1, hs1⟩ := arStep_writes har
  obtain ⟨s2, haw⟩ := awStep_completes (inp := inp) hg1.awOut
  have hg2 := good_awStep hg1 haw
  obtain ⟨q2, p2, w2, v2, a2, l2, i2, hs2⟩ := awStep_writes haw
  have hrd : s2.rd_pending[inp.rid] = rdPendingSeen s inp inp.rid := by
    rw [← arStep_rdPendingSeen har hvisible, hs2]
  have hwr : s2.wr_pending[inp.bid] = wrPendingSeen s inp inp.bid := by
    rw [awStep_wrPendingSeen haw ((arStep_sameSetting har).params ▸ hvisible), hs1]
    rfl
  obtain ⟨s3, hr⟩ := rStep_completes (words := words) (u := s2) hread (by simp [hs2, hs1]) (by simp [hs2, hs1])
    (by simp [hs2, hs1]) hrd
  have hg3 := good_rStep hg2 (by simpa [hs2, hs1, DW] using hwords) hr
  obtain ⟨p3, c3, d3, i3, hs3⟩ := rStep_writes hr
  obtain ⟨s4, hb⟩ := bStep_completes (u := s3) hresponse (by simp [hs3, hs2, hs1]) (by simp [hs3, hs2, hs1])
    (by rw [hs3]; exact hwr)
  obtain ⟨s5, hw⟩ := wStep_completes (inp := inp) (good_bStep hg3 hb)
  refine ⟨s5, ?_⟩
  simp only [tickMachines, hvisible, if_true, bind_ok_iff]
  exact ⟨_, har, _, haw, _, hr, _, hb, hw⟩

/-- Consumers first (R193): R and B find what was recorded before the tick. -/
theorem tickMachines_completes_of_notVisible (hg : Good s) (hwords : unpack words (DW s) < 2 ^ DW s)
    (hread : readBeatKept s inp) (hresponse : responseKept s inp) (hvisible : s.params.same_tick_visible = false) :
    ∃ t, tickMachines inp words s = .ok t := by
  obtain ⟨s1, hr⟩ :=
    rStep_completes (words := words) hread rfl rfl rfl (rdPendingSeen_of_notVisible hvisible inp.rid).symm
  have hg1 := good_rStep hg hwords hr
  obtain ⟨p, c, d, i, hs1⟩ := rStep_writes hr
  obtain ⟨s2, hb⟩ := bStep_completes (u := s1) hresponse (by rw [hs1]) (by rw [hs1])
    (by rw [hs1]; exact (wrPendingSeen_of_notVisible hvisible inp.bid).symm)
  have hg2 := good_bStep hg1 hb
  obtain ⟨s3, hw⟩ := wStep_completes (inp := inp) hg2
  have hg3 := good_wStep hg2 hw
  obtain ⟨s4, har⟩ := arStep_completes (inp := inp) hg3.arOut
  obtain ⟨s5, haw⟩ := awStep_completes (inp := inp) (good_arStep hg3 har).awOut
  refine ⟨s5, ?_⟩
  simp only [tickMachines, hvisible, Bool.false_eq_true, if_false, bind_ok_iff]
  exact ⟨_, hr, _, hb, _, hw, _, har, haw⟩

theorem tickMachines_completes (hg : Good s) (hwords : unpack words (DW s) < 2 ^ DW s) (hread : readBeatKept s inp)
    (hresponse : responseKept s inp) : ∃ t, tickMachines inp words s = .ok t := by
  cases hvisible : s.params.same_tick_visible with
  | true => exact tickMachines_completes_of_visible hg hwords hread hresponse hvisible
  | false => exact tickMachines_completes_of_notVisible hg hwords hread hresponse hvisible

/-- A tick of a running machine whose five steps complete polls and is done. -/
theorem execTick_of_ok (hrun : running s = true) (hwords : snapshotWords s inp.rdata = some words)
    (hdone : tickMachines inp words s = .ok t) : execTick inp s = .next (pollWaiting t) := by
  simp only [execTick, hrun, hwords, hdone, Bool.not_true, Bool.false_eq_true, if_false]

/-! ## What a tick that completes leaves -/

theorem tickMachines_running (hrun : running s = true) (h : tickMachines inp words s = .ok t) : running t = true :=
  tickMachines_keeps (P := fun u => running u = true)
    (fun _ _ hu h => (machine_keeps (words := words) (c := .ar) h).1.trans hu)
    (fun _ _ hu h => (machine_keeps (c := .r) h).1.trans hu)
    (fun _ _ hu h => (machine_keeps (words := words) (c := .aw) h).1.trans hu)
    (fun _ _ hu h => (machine_keeps (words := words) (c := .w) h).1.trans hu)
    (fun _ _ hu h => (machine_keeps (words := words) (c := .b) h).1.trans hu) h hrun

/-- R and B raise their ready (R130, R155), and no later step of the tick lowers it. -/
theorem tickMachines_ready (h : tickMachines inp words s = .ok t) : t.rready_q = true ∧ t.bready_q = true := by
  unfold tickMachines at h
  split at h <;> simp only [bind_ok_iff] at h
  · obtain ⟨s1, -, s2, -, s3, hr, s4, hb, hw⟩ := h
    obtain ⟨p, c, d, i, rfl⟩ := rStep_writes hr
    obtain ⟨p, c, rfl⟩ := bStep_writes hb
    obtain ⟨q, n, v, d, l, rfl⟩ := wStep_writes hw
    exact ⟨rfl, rfl⟩
  · obtain ⟨s1, hr, s2, hb, s3, hw, s4, har, haw⟩ := h
    obtain ⟨p, c, d, i, rfl⟩ := rStep_writes hr
    obtain ⟨p, c, rfl⟩ := bStep_writes hb
    obtain ⟨q, n, v, d, l, rfl⟩ := wStep_writes hw
    obtain ⟨q, p, v, a, l, i, rfl⟩ := arStep_writes har
    obtain ⟨q, p, w, v, a, l, i, rfl⟩ := awStep_writes haw
    exact ⟨rfl, rfl⟩

theorem pollWaiting_keeps (s : State) : (pollWaiting s).fault = s.fault ∧ (pollWaiting s).rready_q = s.rready_q ∧
    (pollWaiting s).bready_q = s.bready_q := by
  obtain h | ⟨k, c, r, -, h⟩ | ⟨k, c, r, -, h⟩ := pollWaiting_writes s <;> rw [h] <;> exact ⟨rfl, rfl, rfl⟩

/-- AR's queue loses its front exactly where a request is accepted (R122). -/
theorem arStep_queue_eq (h : arStep inp s = .ok t) :
    t.ar_queue = if arAccepted s inp then s.ar_queue.tail else s.ar_queue := by
  obtain ⟨hacc, u, hu, rfl⟩ | ⟨hacc, rfl⟩ := arStep_ok h
  · obtain ⟨r, q, hq, rfl⟩ := arAcceptFront_ok hu
    simp [hacc, hq]
  · simp [hacc]

/-- AW's queue loses its front exactly where a request is accepted (R140). -/
theorem awStep_queue_eq (h : awStep inp s = .ok t) :
    t.aw_queue = if awAccepted s inp then s.aw_queue.tail else s.aw_queue := by
  obtain ⟨hacc, u, hu, rfl⟩ | ⟨hacc, rfl⟩ := awStep_ok h
  · obtain ⟨r, q, hq, rfl⟩ := awAcceptFront_ok hu
    simp [hacc, hq]
  · simp [hacc]

theorem tickMachines_arQueue_eq (h : tickMachines inp words s = .ok t) :
    t.ar_queue = if arAccepted s inp then s.ar_queue.tail else s.ar_queue := by
  obtain ⟨u, v, hbefore, har, hafter⟩ := tickMachines_arStep h
  obtain ⟨hqueue, hvalid⟩ := arSide_eq hbefore
  rw [(arSide_eq hafter).1, arStep_queue_eq har, hqueue, arAccepted, hvalid, arAccepted]

theorem tickMachines_awQueue_eq (h : tickMachines inp words s = .ok t) :
    t.aw_queue = if awAccepted s inp then s.aw_queue.tail else s.aw_queue := by
  obtain ⟨u, v, hbefore, haw, hafter⟩ := tickMachines_awStep h
  obtain ⟨hqueue, hvalid⟩ := awSide_eq hbefore
  rw [(awSide_eq hafter).1, awStep_queue_eq haw, hqueue, awAccepted, hvalid, awAccepted]

end

/-- Settles O37: every step completes, and the poll after the steps leaves what is claimed alone. -/
theorem tickCompletesWhenThePeerKeepsItsContract : Obligations.TickCompletesWhenThePeerKeepsItsContract := by
  intro s inp hg hstarted hnone hfits hread hresponse
  have hrun := (running_iff s).2 ⟨hstarted, hnone⟩
  obtain ⟨words, hwords⟩ := exists_snapshotWords hfits
  obtain ⟨t, hdone⟩ := tickMachines_completes hg (unpack_snapshotWords_lt hwords) hread hresponse
  obtain ⟨hfault, hrready, hbready⟩ := pollWaiting_keeps t
  obtain ⟨hr, hb⟩ := tickMachines_ready hdone
  obtain ⟨-, htnone⟩ := (running_iff t).1 (tickMachines_running hrun hdone)
  exact ⟨pollWaiting t, execTick_of_ok hrun hwords hdone, hfault.trans htnone, hrready.trans hr, hbready.trans hb,
    (arSide_eq (arSide_pollWaiting t)).1.trans (tickMachines_arQueue_eq hdone),
    (awSide_eq (awSide_pollWaiting t)).1.trans (tickMachines_awQueue_eq hdone)⟩

/-! ## Quiescence (R198) -/

section
variable {s t : State} {inp : Inputs} {words : List Nat}

theorem arvalid_of_nil (hout : arOutputs s) (hq : s.ar_queue = []) : s.arvalid_q = false := by
  refine Bool.eq_false_iff.2 fun hvalid => ?_
  obtain ⟨r, q, hcons, -⟩ := hout.1 hvalid
  cases hq.symm.trans hcons

theorem awvalid_of_nil (hout : awOutputs s) (hq : s.aw_queue = []) : s.awvalid_q = false := by
  refine Bool.eq_false_iff.2 fun hvalid => ?_
  obtain ⟨r, q, hcons, -⟩ := hout.1 hvalid
  cases hq.symm.trans hcons

theorem wvalid_of_nil (hout : wOutputs s) (hq : s.w_queue = []) : s.wvalid_q = false := by
  refine Bool.eq_false_iff.2 fun hvalid => ?_
  obtain ⟨b, q, hcons, -⟩ := hout.1 hvalid
  cases hq.symm.trans hcons

/-- With nothing queued the drive writes the zeros that stand in the registers (10_state.md R43 (b)). -/
theorem arStep_of_nil (hout : arOutputs s) (hq : s.ar_queue = []) : arStep inp s = .ok s := by
  have hvalid := arvalid_of_nil hout hq
  obtain ⟨haddr, hlen, hid⟩ := hout.2 hvalid
  have hdrive : arDrive s = s := by
    rw [arDrive_of_nil hq]
    cases s
    simp_all only
  simp [arStep, arAccepted, hvalid, hdrive]

theorem awStep_of_nil (hout : awOutputs s) (hq : s.aw_queue = []) : awStep inp s = .ok s := by
  have hvalid := awvalid_of_nil hout hq
  obtain ⟨haddr, hlen, hid⟩ := hout.2 hvalid
  have hdrive : awDrive s = s := by
    rw [awDrive_of_nil hq]
    cases s
    simp_all only
  simp [awStep, awAccepted, hvalid, hdrive]

theorem wStep_of_nil (hout : wOutputs s) (hq : s.w_queue = []) : wStep inp s = .ok s := by
  have hvalid := wvalid_of_nil hout hq
  obtain ⟨hdata, hlast⟩ := hout.2 hvalid
  have hdrive : wDrive s = .ok s := by
    rw [wDrive_of_nil hq]
    cases s
    simp_all only
  simp [wStep, wAccepted, hvalid, hdrive]

theorem rStep_of_noBeat (h : rAccepted s inp = false) : rStep inp words s = .ok (rDriveReady s) := by
  simp [rStep, h]

theorem bStep_of_noResponse (h : bAccepted s inp = false) : bStep inp s = .ok (bDriveReady s) := by
  simp [bStep, h]

theorem tickMachines_quiescent (hg : Good s) (har : s.ar_queue = []) (haw : s.aw_queue = []) (hw : s.w_queue = [])
    (hbeat : rAccepted s inp = false) (hresponse : bAccepted s inp = false) :
    tickMachines inp words s = .ok (bDriveReady (rDriveReady s)) := by
  have hr : rStep inp words s = .ok (rDriveReady s) := rStep_of_noBeat hbeat
  have hb : bStep inp (rDriveReady s) = .ok (bDriveReady (rDriveReady s)) := bStep_of_noResponse hresponse
  have hg' : Good (bDriveReady (rDriveReady s)) := { hg with }
  unfold tickMachines
  split <;> simp only [bind_ok_iff]
  · exact ⟨s, arStep_of_nil hg.arOut har, s, awStep_of_nil hg.awOut haw, _, hr, _, hb, wStep_of_nil hg'.wOut hw⟩
  · exact ⟨_, hr, _, hb, _, wStep_of_nil hg'.wOut hw, _, arStep_of_nil hg'.arOut har, awStep_of_nil hg'.awOut haw⟩

end

/-- Settles O38: the steps but for the two ready drives write what is there already, and no wrapper polls. -/
theorem quiescentMachineStaysQuiescent : Obligations.QuiescentMachineStaysQuiescent := by
  intro s inp hg ⟨hnone, har, haw, hw, _, _⟩ hstarted hwait hfits hbeat hresponse
  obtain ⟨words, hwords⟩ := exists_snapshotWords hfits
  have htick := execTick_of_ok ((running_iff s).2 ⟨hstarted, hnone⟩) hwords
    (tickMachines_quiescent hg har haw hw hbeat hresponse)
  rw [pollWaiting_of_none (s := bDriveReady (rDriveReady s)) hwait] at htick
  exact ⟨htick, arvalid_of_nil hg.arOut har, awvalid_of_nil hg.awOut haw, wvalid_of_nil hg.wOut hw⟩

end Sys2Proof.Machine
end

section
/-!
PROOFS. Status returns (60_exceptions.md R220, R228). InvalidArgument is answered where a command declines, and nowhere
else: the commands that do something return another status, and a wrapper that enters its loop has returned none yet or
returns what its first poll took.
-/

namespace Sys2Proof.Machine

/-- A poll that ends a wrapper returns what it took, and any other poll leaves the reply alone. -/
theorem pollWaiting_reply_ne_invalidArgument {s : State} (h : s.reply ≠ some .invalidArgument) :
    (pollWaiting s).reply ≠ some .invalidArgument := by
  obtain hpoll | ⟨k, b, bs, -, -, hpoll⟩ | ⟨k, n, ns, -, -, hpoll⟩ := pollWaiting_cases s <;> rw [hpoll]
  · exact h
  · nofun
  · nofun

theorem startWaiting_reply_ne_invalidArgument (w : Waiting) (s : State) :
    (startWaiting w s).reply ≠ some .invalidArgument := by
  obtain hstart | ⟨-, hstart⟩ := startWaiting_eq w s <;> rw [hstart]
  · nofun
  · exact pollWaiting_reply_ne_invalidArgument nofun

/-- Settles O34: of the effects of a host command only the declining one leaves InvalidArgument as the reply, and it
writes nothing else. -/
theorem invalidArgumentChangesNothing : Obligations.InvalidArgumentChangesNothing := by
  intro i s t hhost h hreply
  cases exec_effect h with
  | decline reply host gate unchanged =>
    obtain rfl : reply = .invalidArgument := Option.some.inj hreply
    rfl
  | construct | init | sendRead | sendWrite | recvRead | recvWrite => cases hreply
  | read | write => exact absurd hreply (startWaiting_reply_ne_invalidArgument _ _)
  | idle notHost => exact absurd hhost notHost
  | raise v runs raiser =>
    obtain hr | hb | ⟨inp, rfl⟩ := raiser
    · cases hr.symm.trans hhost
    · cases hb.symm.trans hhost
    · cases hhost
  | ar | r | aw | w | b => simp at hhost
  | tick | reset => cases hhost

end Sys2Proof.Machine
end

section
/-!
PROOFS. Who raises a ProtocolViolation (60_exceptions.md R220, R225). Of the five machines only R and B do, on an
accepted beat or response, and the register by which they accept is still the snapshot's when their turn in a tick
comes; every other effect of an operation leaves a machine without a fault.
-/

namespace Sys2Proof.Machine

section
variable {s t : State} {i : Instr} {inp : Inputs} {words : List Nat} {v : FaultRecord}

/-- Only R and B raise, and only on what they accept (R222). -/
theorem machine_violation {c : Channel} (h : machine inp words c s = .error (.violation v)) :
    (c = .r ∧ rAccepted s inp = true) ∨ (c = .b ∧ bAccepted s inp = true) := by
  cases c with
  | ar => cases (arStep_error h).1
  | r => exact .inl ⟨rfl, (rStep_error h).1⟩
  | aw => cases (awStep_error h).1
  | w =>
    obtain ⟨f, hf⟩ := wStep_error h
    cases hf
  | b => exact .inr ⟨rfl, (bStep_error h).1⟩

/-- A violation in a sequence of steps is that of one of the machines, whose register is as it was before the sequence
(R191). -/
theorem runMachines_violation {cs : List Channel} (hnodup : cs.Nodup)
    (h : runMachines inp words cs s = .error (.violation v)) :
    ∃ c ∈ cs, ∃ u, selector c u = selector c s ∧ machine inp words c u = .error (.violation v) := by
  induction cs generalizing s with
  | nil => cases h
  | cons c cs ih =>
    obtain ⟨hc, hcs⟩ := List.nodup_cons.1 hnodup
    obtain hraise | ⟨u, hstep, hrest⟩ := (bind_error_iff _ _ _).1 h
    · exact ⟨c, List.mem_cons_self, s, rfl, hraise⟩
    · obtain ⟨d, hd, w, hsame, hraise⟩ := ih hcs hrest
      obtain ⟨-, -, hkept⟩ := machine_keeps hstep
      exact ⟨d, List.mem_cons_of_mem c hd, w, hsame.trans (hkept d fun hdc => hc (hdc ▸ hd)), hraise⟩

theorem tickMachines_violation (h : tickMachines inp words s = .error (.violation v)) :
    rAccepted s inp = true ∨ bAccepted s inp = true := by
  rw [tickMachines_eq_runMachines] at h
  obtain ⟨c, -, u, hsame, hraise⟩ := runMachines_violation (tickOrder_nodup s) h
  obtain ⟨rfl, hacc⟩ | ⟨rfl, hacc⟩ := machine_violation hraise
  · have hready : u.rready_q = s.rready_q := hsame
    rw [rAccepted, hready] at hacc
    exact .inl hacc
  · have hready : u.bready_q = s.bready_q := hsame
    rw [bAccepted, hready] at hacc
    exact .inr hacc

/-- A tick that leaves a fault has ended in the violation of one of its steps. -/
theorem execTick_raises (hnone : s.fault = none) (h : execTick inp s = .next t) (hraised : t.fault ≠ none) :
    ∃ words v, tickMachines inp words s = .error (.violation v) := by
  unfold execTick at h
  split at h
  · cases h
    exact absurd hnone hraised
  · next hrun =>
    split at h
    · cases h
    · next words _ =>
      split at h
      · next u hdone =>
        cases h
        have hrunu := tickMachines_running (by simpa using hrun) hdone
        exact absurd ((pollWaiting_keeps u).1.trans ((running_iff u).1 hrunu).2) hraised
      · next e hstop =>
        obtain hok | ⟨v, hv, -⟩ := settle_next h
        · cases hok
        · exact ⟨words, v, hstop.trans hv⟩

/-- By its port an operation that raises belongs to R or B, or is a TICK. -/
theorem Effect.raiser (h : Effect s i t) (hnone : s.fault = none) (hraised : t.fault ≠ none) :
    portOf i = .r ∨ portOf i = .b ∨ ∃ inp, i = .tick inp := by
  cases h with
  | raise v runs raiser => exact raiser
  | r inp words runs presented done => exact .inl (portOf_rEvent s inp)
  | b inp runs done => exact .inr (.inl (portOf_bEvent s inp))
  | tick inp words runs presented done => exact .inr (.inr ⟨inp, rfl⟩)
  | ar inp runs done =>
    obtain ⟨q, p, v, a, l, i, rfl⟩ := arStep_writes done
    exact absurd hnone hraised
  | aw inp runs done =>
    obtain ⟨q, p, w, v, a, l, i, rfl⟩ := awStep_writes done
    exact absurd hnone hraised
  | w inp runs done =>
    obtain ⟨q, n, v, d, l, rfl⟩ := wStep_writes done
    exact absurd hnone hraised
  | read c req cfg gate checked =>
    obtain ⟨c, r, w, ht, -⟩ := startWaiting_read_writes req.id { s with ar_queue := s.ar_queue ++ [req] }
    rw [ht] at hraised
    exact absurd hnone hraised
  | write c req cfg gate checked =>
    obtain ⟨c, r, w, ht, -⟩ := startWaiting_write_writes req.id { s with aw_queue := s.aw_queue ++ [req] }
    rw [ht] at hraised
    exact absurd hnone hraised
  | reset | construct => exact absurd rfl hraised
  | idle | decline | init | sendRead | sendWrite | recvRead | recvWrite => exact absurd hnone hraised

/-- An event that is a drive completes, and so raises nothing. -/
theorem channelEvent_drive_fault {sel : Bool} {drive : State → State} (hdrive : (drive s).fault = s.fault)
    (h : channelEvent sel (fun s => .ok (drive s)) s = .next t) : t.fault = s.fault := by
  obtain ⟨-, rfl⟩ | ⟨-, -, hok | ⟨v, hraise, -⟩⟩ := channelEvent_next h
  · rfl
  · cases hok
    exact hdrive
  · cases hraise

end

/-- Settles O44: an operation that raises is R's, B's or a TICK; R's and B's events without a beat are ready drives, and
a TICK raises by an accepted beat or response. -/
theorem onlyRAndBRaise : Obligations.OnlyRAndBRaise := by
  intro i s t hnone h hraised
  have hwritten : t.fault ≠ s.fault := hnone ▸ hraised
  obtain hr | hb | ⟨inp, rfl⟩ := (exec_effect h).raiser hnone hraised
  · cases i with
    | rBeat rid rdata => exact .inr (.inl ⟨rid, rdata, rfl⟩)
    | rLast rid rdata => exact .inr (.inr (.inl ⟨rid, rdata, rfl⟩))
    | rNobeatNotReady | rNobeatNotValid => exact absurd (channelEvent_drive_fault (drive := rDriveReady) rfl h) hwritten
    | _ => cases hr
  · cases i with
    | bResp bid bresp => exact .inr (.inr (.inr ⟨bid, bresp, rfl⟩))
    | bNobeatNotReady | bNobeatNotValid => exact absurd (channelEvent_drive_fault (drive := bDriveReady) rfl h) hwritten
    | _ => cases hb
  · obtain ⟨words, v, hraise⟩ := execTick_raises hnone h hraised
    exact .inl ⟨inp, rfl, tickMachines_violation hraise⟩

end Sys2Proof.Machine
end

section
/-!
PROOFS. A tick on which the peer breaks its contract (60_exceptions.md R222, R225 c). R's five checks and B's two are
the negation of that contract, on what the two machines find outstanding when their turn comes; a machine that does not
complete has therefore raised one of its own causes, and in a state that meets the invariants the steps before R's and
B's complete.
-/

namespace Sys2Proof.Machine

/-- The record is of one of causes 1 to 3, which R raises. -/
def RaisedByR (v : FaultRecord) : Prop :=
  v.cause = .RD_NO_OUTSTANDING ∨ v.cause = .RD_ID_CHANGED ∨ v.cause = .RD_LENGTH_MISMATCH

/-- The record is of cause 4 or 5, which B raises. -/
def RaisedByB (v : FaultRecord) : Prop :=
  v.cause = .WR_NO_OUTSTANDING ∨ v.cause = .WR_ERROR_RESPONSE

/-- What R's step in `u` finds at the tick from `s` on the inputs `inp`. -/
structure RTurn (s : State) (inp : Inputs) (u : State) : Prop where
  ready : u.rready_q = s.rready_q
  data : u.r_burst_data = s.r_burst_data
  id : u.r_burst_id = s.r_burst_id
  pending : u.rd_pending[inp.rid] = rdPendingSeen s inp inp.rid
  /-- R43 (f). -/
  assembling : u.r_burst_data ≠ [] → u.rd_pending[u.r_burst_id] ≠ []

/-- What B's step in `u` finds at the tick from `s` on the inputs `inp`. -/
structure BTurn (s : State) (inp : Inputs) (u : State) : Prop where
  ready : u.bready_q = s.bready_q
  params : u.params = s.params
  pending : u.wr_pending[inp.bid] = wrPendingSeen s inp inp.bid

section
variable {s t u : State} {inp : Inputs} {words : List Nat} {v : FaultRecord}

/-! ## R -/

/-- The converse of `rCollect_of_passes`. -/
theorem rCollect_passed {rid : TxnId} (h : rCollect rid words s = .ok t) :
    (s.r_burst_data = [] → s.rd_pending[rid] ≠ []) ∧ (s.r_burst_data ≠ [] → rid = s.r_burst_id) ∧
      t = withBeat rid (unpack words (DW s)) s := by
  obtain ⟨hd, hpending, rfl⟩ | ⟨hd, rfl, rfl⟩ := rCollect_ok h
  · exact ⟨fun _ => hpending, (absurd hd ·), by simp [withBeat, hd]⟩
  · exact ⟨(absurd · hd), fun _ => rfl, rfl⟩

/-- A step of R that completes has found causes 1 to 3 unbroken. -/
theorem RTurn.kept_of_ok (hu : RTurn s inp u) (hok : rStep inp words u = .ok t) : readBeatKept s inp := by
  intro hacc
  rw [rAccepted, ← hu.ready] at hacc
  obtain ⟨hnot, -⟩ | ⟨-, c, hcollect, hrest⟩ := rStep_ok hok
  · cases hnot.symm.trans hacc
  · obtain ⟨hfirst, hlater, rfl⟩ := rCollect_passed hcollect
    rw [← hu.pending, ← hu.data, ← hu.id]
    refine ⟨hfirst, hlater, fun hlast => ?_⟩
    obtain ⟨hnot, -⟩ | ⟨-, w, hpublish, -⟩ := hrest
    · cases hnot.symm.trans hlast
    · obtain ⟨ns, hslot, -⟩ := rPublish_ok hpublish
      have hfront : u.rd_pending[inp.rid] = (u.r_burst_data ++ [unpack words (DW u)]).length :: ns := hslot
      simp [hfront]

/-- A step of R that does not complete raises: the slot it publishes from is not empty, the first beat of the burst
having been checked, now or, by R43 (f), before. -/
theorem RTurn.violation_of_error (hu : RTurn s inp u) {e : Halt} (h : rStep inp words u = .error e) :
    ∃ v, e = .violation v ∧ RaisedByR v := by
  obtain ⟨-, hcollect | ⟨c, hcollect, -, hpublish⟩⟩ := rStep_error h
  · obtain ⟨-, -, rfl⟩ | ⟨-, -, rfl⟩ := rCollect_error hcollect
    · exact ⟨_, rfl, .inl rfl⟩
    · exact ⟨_, rfl, .inr (.inl rfl)⟩
  · obtain ⟨hfirst, hlater, rfl⟩ := rCollect_passed hcollect
    obtain ⟨hempty, -⟩ | ⟨n, ns, -, -, rfl⟩ := rPublish_error hpublish
    · have hslot : u.rd_pending[inp.rid] = [] := hempty
      by_cases hd : u.r_burst_data = []
      · exact absurd hslot (hfirst hd)
      · simp only [hlater hd] at hslot
        exact absurd hslot (hu.assembling hd)
    · exact ⟨_, rfl, .inr (.inr rfl)⟩

theorem RTurn.raises (hu : RTurn s inp u) (hbroken : ¬ readBeatKept s inp) :
    ∃ v, rStep inp words u = .error (.violation v) ∧ RaisedByR v := by
  cases hstep : rStep inp words u with
  | ok t => exact absurd (hu.kept_of_ok hstep) hbroken
  | error e =>
    obtain ⟨v, rfl, hv⟩ := hu.violation_of_error hstep
    exact ⟨v, rfl, hv⟩

/-! ## B -/

/-- A step of B that completes has found causes 4 and 5 unbroken. -/
theorem BTurn.kept_of_ok (hu : BTurn s inp u) (hok : bStep inp u = .ok t) : responseKept s inp := by
  intro hacc
  rw [bAccepted, ← hu.ready] at hacc
  obtain ⟨hnot, -⟩ | ⟨-, w, hrespond, -⟩ := bStep_ok hok
  · cases hnot.symm.trans hacc
  · obtain ⟨hpending, hokay, -⟩ := bRespond_ok hrespond
    rw [← hu.pending, ← hu.params]
    exact ⟨hpending, hokay⟩

theorem BTurn.raises (hu : BTurn s inp u) (hbroken : ¬ responseKept s inp) :
    ∃ v, bStep inp u = .error (.violation v) ∧ RaisedByB v := by
  cases hstep : bStep inp u with
  | ok t => exact absurd (hu.kept_of_ok hstep) hbroken
  | error e =>
    obtain ⟨-, rfl⟩ | ⟨-, -, -, rfl⟩ := bRespond_error (bStep_error hstep).2
    · exact ⟨_, rfl, .inl rfl⟩
    · exact ⟨_, rfl, .inr rfl⟩

/-- R's step leaves B's side alone. -/
theorem BTurn.after_rStep (hu : BTurn s inp u) (h : rStep inp words u = .ok t) : BTurn s inp t := by
  obtain ⟨p, c, d, i, rfl⟩ := rStep_writes h
  exact ⟨hu.ready, hu.params, hu.pending⟩

/-! ## The tick -/

/-- Where R's and B's turns come in a tick: from the start, or after AR and AW, which complete (D4, entry 13). -/
theorem tickMachines_turns (hg : Good s) (inp : Inputs) (words : List Nat) :
    ∃ u rest, RTurn s inp u ∧ BTurn s inp u ∧
      tickMachines inp words s = (rStep inp words u).bind fun v => (bStep inp v).bind rest := by
  cases hvisible : s.params.same_tick_visible with
  | false =>
    exact ⟨s, _, ⟨rfl, rfl, rfl, (rdPendingSeen_of_notVisible hvisible _).symm, hg.assembling⟩,
      ⟨rfl, rfl, (wrPendingSeen_of_notVisible hvisible _).symm⟩, by simp only [tickMachines, hvisible]; rfl⟩
  | true =>
    obtain ⟨s1, har⟩ := arStep_completes (inp := inp) hg.arOut
    have hg1 := good_arStep hg har
    obtain ⟨s2, haw⟩ := awStep_completes (inp := inp) hg1.awOut
    have hg2 := good_awStep hg1 haw
    have hrd := arStep_rdPendingSeen har hvisible inp.rid
    have hwr := awStep_wrPendingSeen haw ((arStep_sameSetting har).params ▸ hvisible) inp.bid
    obtain ⟨hr, hb⟩ : RTurn s inp s2 ∧ BTurn s inp s2 := by
      obtain ⟨q1, p1, v1, a1, l1, i1, rfl⟩ := arStep_writes har
      obtain ⟨q2, p2, w2, v2, a2, l2, i2, rfl⟩ := awStep_writes haw
      exact ⟨⟨rfl, rfl, rfl, hrd, hg2.assembling⟩, rfl, rfl, hwr⟩
    have htick : tickMachines inp words s = (rStep inp words s2).bind fun v => (bStep inp v).bind (wStep inp) := by
      rw [tickMachines, if_pos hvisible, har]
      change (awStep inp s1).bind _ = _
      rw [haw]
      rfl
    exact ⟨s2, wStep inp, hr, hb, htick⟩

theorem tickMachines_of_readBroken (hg : Good s) (hbroken : ¬ readBeatKept s inp) :
    ∃ v, tickMachines inp words s = .error (.violation v) ∧ RaisedByR v := by
  obtain ⟨u, rest, hr, -, htick⟩ := tickMachines_turns hg inp words
  obtain ⟨v, hraise, hv⟩ := hr.raises (words := words) hbroken
  exact ⟨v, htick.trans ((bind_error_iff _ _ _).2 (.inl hraise)), hv⟩

theorem tickMachines_of_responseBroken (hg : Good s) (hkept : readBeatKept s inp) (hbroken : ¬ responseKept s inp) :
    ∃ v, tickMachines inp words s = .error (.violation v) ∧ RaisedByB v := by
  obtain ⟨u, rest, hr, hb, htick⟩ := tickMachines_turns hg inp words
  obtain ⟨w, hstep⟩ := rStep_completes (words := words) hkept hr.ready hr.data hr.id hr.pending
  obtain ⟨v, hraise, hv⟩ := (hb.after_rStep hstep).raises hbroken
  have hrest := (bind_error_iff _ rest _).2 (.inl hraise)
  exact ⟨v, htick.trans ((bind_error_iff _ _ _).2 (.inr ⟨w, hstep, hrest⟩)), hv⟩

/-- A tick of a running machine whose steps raise a ProtocolViolation records it (R195). -/
theorem execTick_of_violation (hrun : running s = true) (hwords : snapshotWords s inp.rdata = some words)
    (hraise : tickMachines inp words s = .error (.violation v)) : execTick inp s = .next (takeViolation v s) := by
  simp only [execTick, hrun, hwords, hraise, Bool.not_true, Bool.false_eq_true, if_false, settle]

end

/-- Settles O39: R's turn comes before B's, so B's violation is recorded where R's step completes. -/
theorem tickRecordsTheViolation : Obligations.TickRecordsTheViolation := by
  intro s inp hg hstarted hnone hfits
  have hrun := (running_iff s).2 ⟨hstarted, hnone⟩
  obtain ⟨words, hwords⟩ := exists_snapshotWords hfits
  refine ⟨fun hbroken => ?_, fun hkept hbroken => ?_⟩
  · obtain ⟨v, hraise, hv⟩ := tickMachines_of_readBroken (words := words) hg hbroken
    exact ⟨_, v, execTick_of_violation hrun hwords hraise, takeViolation_fault v s, hv⟩
  · obtain ⟨v, hraise, hv⟩ := tickMachines_of_responseBroken (words := words) hg hkept hbroken
    exact ⟨_, v, execTick_of_violation hrun hwords hraise, takeViolation_fault v s, hv⟩

end Sys2Proof.Machine
end

section
/-!
PROOFS. Inputs a tick does not look at (70_reset_and_hazards.md R263). Each machine accepts by its own register and the
peer's valid or ready, and the register is still the snapshot's when the machine's turn comes (R191); a machine that
accepts nothing reads nothing else of the inputs, so two ticks whose inputs differ there only run alike.
-/

namespace Sys2Proof.Machine

section
variable {s : State} {inp other : Inputs} {words words' : List Nat}

/-- Machines that step alike on both inputs, from every state with the snapshot's registers, run alike. -/
theorem runMachines_congr {cs : List Channel} (hnodup : cs.Nodup) {u : State}
    (hregisters : ∀ c ∈ cs, selector c u = selector c s)
    (halike : ∀ c v, selector c v = selector c s → machine other words' c v = machine inp words c v) :
    runMachines other words' cs u = runMachines inp words cs u := by
  induction cs generalizing u with
  | nil => rfl
  | cons c cs ih =>
    obtain ⟨hc, hcs⟩ := List.nodup_cons.1 hnodup
    simp only [runMachines, halike c u (hregisters c List.mem_cons_self)]
    cases hstep : machine inp words c u with
    | error e => rfl
    | ok v =>
      obtain ⟨-, -, hkept⟩ := machine_keeps hstep
      exact ih hcs fun d hd =>
        (hkept d fun hdc => hc (hdc ▸ hd)).trans (hregisters d (List.mem_cons_of_mem c hd))

/-- A tick whose machines step alike on both inputs has the same outcome on both. -/
theorem execTick_congr (hwords : snapshotWords s inp.rdata = some words)
    (hwords' : snapshotWords s other.rdata = some words')
    (halike : ∀ c v, selector c v = selector c s → machine other words' c v = machine inp words c v) :
    execTick other s = execTick inp s := by
  have hmachines : tickMachines other words' s = tickMachines inp words s := by
    simp only [tickMachines_eq_runMachines]
    exact runMachines_congr (tickOrder_nodup s) (fun _ _ => rfl) halike
  simp only [execTick, hwords, hwords', hmachines]

theorem rStep_of_ignored (h : s.rready_q = false ∨ inp.rvalid = false) : rStep inp words s = .ok (rDriveReady s) :=
  rStep_of_noBeat (Bool.and_eq_false_iff.2 h)

theorem bStep_of_ignored (h : s.bready_q = false ∨ inp.bvalid = false) : bStep inp s = .ok (bDriveReady s) :=
  bStep_of_noResponse (Bool.and_eq_false_iff.2 h)

theorem rStep_congr_of_ignored (hvalid : other.rvalid = inp.rvalid) (h : s.rready_q = false ∨ inp.rvalid = false) :
    rStep other words' s = rStep inp words s := by
  rw [rStep_of_ignored h, rStep_of_ignored (hvalid ▸ h)]

theorem bStep_congr_of_ignored (hvalid : other.bvalid = inp.bvalid) (h : s.bready_q = false ∨ inp.bvalid = false) :
    bStep other s = bStep inp s := by
  rw [bStep_of_ignored h, bStep_of_ignored (hvalid ▸ h)]

end

/-- Settles O41: where R accepts no beat, or B no response, the machine raises its ready whatever the other inputs are;
the other machines do not read these inputs. -/
theorem ignoredInputsHaveNoEffect : Obligations.IgnoredInputsHaveNoEffect := by
  intro s inp rid bid rdata rlast bresp hfits hfits'
  obtain ⟨words, hwords⟩ := exists_snapshotWords hfits
  refine ⟨fun hignored => .inl ?_, fun hignored => .inl ?_⟩
  · obtain ⟨words', hwords'⟩ :=
      exists_snapshotWords (inp := { inp with rid := rid, rdata := rdata, rlast := rlast }) hfits'
    refine execTick_congr hwords hwords' fun c v hsame => ?_
    cases c with
    | r =>
      rw [← show v.rready_q = s.rready_q from hsame] at hignored
      exact rStep_congr_of_ignored rfl hignored
    | ar | aw | w | b => rfl
  · refine execTick_congr (other := { inp with bid := bid, bresp := bresp }) hwords hwords fun c v hsame => ?_
    cases c with
    | b =>
      rw [← show v.bready_q = s.bready_q from hsame] at hignored
      exact bStep_congr_of_ignored rfl hignored
    | ar | r | aw | w => rfl

end Sys2Proof.Machine
end

section
/-!
PROOFS. Cycle 0 and the first tick (70_reset_and_hazards.md R252). CONSTRUCT and INIT leave every item but `started` at
its reset value, and a host command after them writes the request queues and what stands outside the block only, since
no burst and no response is completed; a tick from such a state accepts nothing, and its machines only drive.
-/

namespace Sys2Proof.Machine

/-! ## Cycle 0 -/

/-- What CONSTRUCT with the configuration `c` and INIT make, with what host commands may have written since. -/
def cycleZero (c : BusConfig) (s : State) (reply : Option Reply) (waiting : Option Waiting)
    (reads : List PendingRequest) (writes : List WriteRequest) : State :=
  { freshInstance (some c) s with
    started := true, reply := reply, waiting := waiting, ar_queue := reads, aw_queue := writes }

def InCycleZero (c : BusConfig) (s t : State) : Prop :=
  ∃ reply waiting reads writes, t = cycleZero c s reply waiting reads writes

section
variable {s t u : State} {i : Instr} {inp : Inputs} {words : List Nat} {c : BusConfig}

theorem InCycleZero.completed_nil (hu : InCycleZero c s u) (k : TxnId) :
    u.rd_completed[k] = [] ∧ u.wr_completed[k] = [] := by
  obtain ⟨r, w, reads, writes, rfl⟩ := hu
  simp [cycleZero, State.reset]

theorem pollWaiting_of_noneCompleted (h : ∀ k : TxnId, s.rd_completed[k] = [] ∧ s.wr_completed[k] = []) :
    pollWaiting s = s := by
  cases hloop : s.waiting with
  | none => exact pollWaiting_of_none hloop
  | some w =>
    cases w with
    | read k => exact pollWaiting_read_of_nil hloop (h k).1
    | write k => exact pollWaiting_write_of_nil hloop (h k).2

/-- A wrapper that starts in cycle 0 finds nothing to return. -/
theorem InCycleZero.startWaiting (hu : InCycleZero c s u) (w : Waiting) : InCycleZero c s (startWaiting w u) := by
  have hslots := hu.completed_nil
  obtain ⟨r, w', reads, writes, rfl⟩ := hu
  cases w with
  | read k =>
    rw [startWaiting_read_waits (.inr (hslots k).1)]
    exact ⟨none, some (.read k), reads, writes, rfl⟩
  | write k =>
    rw [startWaiting_write_waits (.inr (hslots k).2)]
    exact ⟨none, some (.write k), reads, writes, rfl⟩

/-- A host command but CONSTRUCT writes the request queues, the reply and the wrapper only. -/
theorem InCycleZero.hostCommand (hu : InCycleZero c s u) (hhost : portOf i = .host)
    (hconstruct : ∀ a b, i ≠ .construct a b) (h : exec i u = .next t) : InCycleZero c s t := by
  have hslots := hu.completed_nil
  obtain ⟨r, w, reads, writes, rfl⟩ := hu
  cases exec_effect h with
  | decline reply => exact ⟨some reply, w, reads, writes, rfl⟩
  | init c' cfg gate stopped => cases stopped
  | sendRead c' req => exact ⟨some .ok, w, reads ++ [req], writes, rfl⟩
  | sendWrite c' req => exact ⟨some .ok, w, reads, writes ++ [req], rfl⟩
  | read c' req => exact InCycleZero.startWaiting ⟨r, w, reads ++ [req], writes, rfl⟩ _
  | write c' req => exact InCycleZero.startWaiting ⟨r, w, reads, writes ++ [req], rfl⟩ _
  | recvRead k gate front => cases (hslots k).1.symm.trans front
  | recvWrite k gate front => cases (hslots k).2.symm.trans front
  | construct => exact absurd rfl (hconstruct _ _)
  | idle notHost => exact absurd hhost notHost
  | raise v runs raiser =>
    obtain hr | hb | ⟨inp, rfl⟩ := raiser
    · cases hhost.symm.trans hr
    · cases hhost.symm.trans hb
    · cases hhost
  | ar => cases (portOf_arEvent _ _).symm.trans hhost
  | r => cases (portOf_rEvent _ _).symm.trans hhost
  | aw => cases (portOf_awEvent _ _).symm.trans hhost
  | w => cases (portOf_wEvent _ _).symm.trans hhost
  | b => cases (portOf_bEvent _ _).symm.trans hhost
  | tick | reset => cases hhost

theorem performAll_cons_of_next {is : List Instr} (h : exec i s = .next u) :
    performAll (i :: is) s = performAll is u := by
  simp only [performAll, h]

/-- What every instruction of a list keeps, performing the list keeps. -/
theorem performAll_keeps {P : State → Prop} {is : List Instr}
    (hkeeps : ∀ i ∈ is, ∀ u v, P u → exec i u = .next v → P v) (hs : P s) (h : performAll is s = .next t) : P t := by
  induction is generalizing s with
  | nil =>
    cases h
    exact hs
  | cons i is ih =>
    cases hexec : exec i s with
    | next u =>
      exact ih (fun j hj => hkeeps j (List.mem_cons_of_mem i hj)) (hkeeps i List.mem_cons_self s u hs hexec)
        ((performAll_cons_of_next hexec).symm.trans h)
    | fault | refused => simp only [performAll, hexec, reduceCtorEq] at h

/-- CONSTRUCT and INIT lead to cycle 0, and it lasts until a TICK. -/
theorem inCycleZero_of_performAll {dwBits awBits : Nat} {commands : List Instr} (hwait : s.waiting = none)
    (hnone : s.fault = none) (hwf : configWellFormed ⟨s.iface_strap, dwBits, awBits⟩ = true)
    (hcommands : ∀ i ∈ commands, portOf i = .host ∧ ∀ a b, i ≠ .construct a b)
    (h : performAll (.construct dwBits awBits :: .init :: commands) s = .next t) :
    InCycleZero ⟨s.iface_strap, dwBits, awBits⟩ s t := by
  have hconstruct := exec_construct_of_open dwBits awBits hwait hnone
  rw [if_pos hwf] at hconstruct
  have hinit := initStartsTheInstance (respond .ok (freshInstance (some ⟨s.iface_strap, dwBits, awBits⟩) s)) _ rfl rfl
    rfl rfl
  rw [performAll_cons_of_next hconstruct, performAll_cons_of_next hinit] at h
  refine performAll_keeps (fun i hi u v hu => ?_) ⟨some .ok, none, [], [], rfl⟩ h
  exact hu.hostCommand (hcommands i hi).1 (hcommands i hi).2

theorem InCycleZero.driven_eq_zero (hu : InCycleZero c s u) {sig : Signal} {v : Nat} (h : driven u sig = some v) :
    v = 0 := by
  obtain ⟨r, w, reads, writes, rfl⟩ := hu
  cases sig <;> cases h <;> rfl

/-! ## The first tick -/

theorem arStep_of_idle (h : s.arvalid_q = false) : arStep inp s = .ok (arDrive s) := by
  simp [arStep, arAccepted, h]

theorem awStep_of_idle (h : s.awvalid_q = false) : awStep inp s = .ok (awDrive s) := by
  simp [awStep, awAccepted, h]

/-- Both branches of R121 in one. -/
theorem arDrive_eq (s : State) : arDrive s = { s with
    arvalid_q := !s.ar_queue.isEmpty
    araddr_q := (s.ar_queue.head?.map (·.address)).getD 0
    arlen_q := (s.ar_queue.head?.map (·.burst_len_minus1)).getD 0
    arid_q := (s.ar_queue.head?.map (·.id)).getD 0 } := by
  cases hq : s.ar_queue with
  | nil => simp [arDrive_of_nil hq, hq]
  | cons h q => simp [arDrive_of_cons hq, hq]

/-- Both branches of R141 in one. -/
theorem awDrive_eq (s : State) : awDrive s = { s with
    awvalid_q := !s.aw_queue.isEmpty
    awaddr_q := (s.aw_queue.head?.map (·.address)).getD 0
    awlen_q := (s.aw_queue.head?.map (·.burst_len_minus1)).getD 0
    awid_q := (s.aw_queue.head?.map (·.id)).getD 0 } := by
  cases hq : s.aw_queue with
  | nil => simp [awDrive_of_nil hq, hq]
  | cons h q => simp [awDrive_of_cons hq, hq]

/-- With every valid and ready low the machines accept nothing, and W, which has nothing queued, is idle. -/
theorem tickMachines_of_outputsLow (har : s.arvalid_q = false) (haw : s.awvalid_q = false) (hr : s.rready_q = false)
    (hb : s.bready_q = false) (hout : wOutputs s) (hqueue : s.w_queue = []) :
    tickMachines inp words s = .ok (awDrive (arDrive (bDriveReady (rDriveReady s)))) := by
  have hcomm : bDriveReady (rDriveReady (awDrive (arDrive s))) = awDrive (arDrive (bDriveReady (rDriveReady s))) := by
    simp only [arDrive_eq, awDrive_eq, bDriveReady, rDriveReady]
  unfold tickMachines
  split <;> simp only [bind_ok_iff]
  · refine ⟨_, arStep_of_idle har, _, awStep_of_idle (by simpa using haw), _, rStep_of_ignored (.inl (by simpa using hr)),
      _, bStep_of_ignored (.inl (by simpa using hb)), ?_⟩
    rw [hcomm]
    exact wStep_of_nil (wOutputs_awDrive (wOutputs_arDrive hout)) (by simpa using hqueue)
  · exact ⟨_, rStep_of_ignored (.inl hr), _, bStep_of_ignored (.inl hb), _, wStep_of_nil hout hqueue,
      _, arStep_of_idle har, awStep_of_idle (by simpa using haw)⟩

/-- The machines of the first tick leave what the drives write (R252). -/
theorem InCycleZero.firstTick (hu : InCycleZero c s u) (hfits : inp.rdata < 2 ^ c.data_width_bits) :
    execTick inp u = .next (awDrive (arDrive (bDriveReady (rDriveReady u)))) := by
  have hslots := hu.completed_nil
  obtain ⟨r, w, reads, writes, rfl⟩ := hu
  have hlow : wOutputs (cycleZero c s r w reads writes) := ⟨nofun, fun _ => ⟨rfl, rfl⟩⟩
  obtain ⟨words, hwords⟩ := exists_snapshotWords (s := cycleZero c s r w reads writes) hfits
  rw [execTick_of_ok rfl hwords (tickMachines_of_outputsLow rfl rfl rfl rfl hlow rfl),
    pollWaiting_of_noneCompleted fun k => by simpa using hslots k]

end

/-- Settles O54: cycle 0 lasts until the first tick, whose machines accept nothing and drive. -/
theorem firstTickAcceptsNothing : Obligations.FirstTickAcceptsNothing := by
  intro s t dwBits awBits commands inp hwait hnone hbyte hmin haddr hfits hcommands h
  have hzero := inCycleZero_of_performAll hwait hnone ((configWellFormed_iff _).2 ⟨hbyte, hmin, haddr⟩) hcommands h
  refine ⟨fun sig v => hzero.driven_eq_zero, (hzero.firstTick hfits).trans ?_⟩
  simp only [arDrive_eq, awDrive_eq, bDriveReady, rDriveReady]

end Sys2Proof.Machine
end

section
/-!
PROOFS. Data in the cycle of the address handshake (70_reset_and_hazards.md R255). With the default of SAME_TICK_VISIBLE
R and B come before AR and AW (46_cycle_step.md R193), so they find outstanding what the snapshot holds, and a request
accepted in the same tick is not yet part of it.
-/

namespace Sys2Proof.Machine

section
variable {s : State} {inp : Inputs} {words : List Nat}

/-- An accepted first beat without an outstanding read of its ID raises cause 1 (R134). -/
theorem rStep_of_noOutstanding (hacc : rAccepted s inp = true) (hfirst : s.r_burst_data = [])
    (hpending : s.rd_pending[inp.rid] = []) :
    rStep inp words s =
      .error (.violation { cause := .RD_NO_OUTSTANDING, id := inp.rid, expected := 0, got := 0 }) := by
  rw [rStep, if_pos hacc, rCollect_of_noOutstanding hfirst hpending]
  rfl

/-- An accepted response without an outstanding write of its ID raises cause 4 (R158). -/
theorem bStep_of_noOutstanding (hacc : bAccepted s inp = true) (hpending : s.wr_pending[inp.bid] = []) :
    bStep inp s = .error (.violation { cause := .WR_NO_OUTSTANDING, id := inp.bid, expected := 0, got := 0 }) := by
  rw [bStep, if_pos hacc, bRespond_of_noOutstanding hpending]
  rfl

/-- R's turn is the first, and B's the second. -/
theorem tickMachines_of_notVisible (hvisible : s.params.same_tick_visible = false) :
    ∃ rest, tickMachines inp words s = (rStep inp words s).bind fun t => (bStep inp t).bind rest :=
  ⟨_, by simp only [tickMachines, hvisible]; rfl⟩

end

/-- Settles O40: R's step, or B's after a step of R that accepts nothing, finds nothing outstanding for the ID. -/
theorem dataInTheHandshakeCycleFaults : Obligations.DataInTheHandshakeCycleFaults := by
  intro s inp hstarted hnone hvisible hfits
  have hrun := (running_iff s).2 ⟨hstarted, hnone⟩
  obtain ⟨words, hwords⟩ := exists_snapshotWords hfits
  obtain ⟨rest, hturns⟩ := tickMachines_of_notVisible (inp := inp) (words := words) hvisible
  refine ⟨fun h q _ _ hpending hacc hfirst hid => ?_, fun h q _ _ hpending hacc hnobeat hid => ?_⟩ <;>
    simp only [← hid] at hpending ⊢
  · rw [rStep_of_noOutstanding hacc hfirst hpending] at hturns
    exact ⟨_, execTick_of_violation hrun hwords hturns, takeViolation_fault _ s⟩
  · have hraise := bStep_of_noOutstanding (s := rDriveReady s) hacc hpending
    rw [rStep_of_noBeat hnobeat] at hturns
    have hbreak := hturns.trans ((bind_error_iff _ rest _).2 (.inl hraise))
    exact ⟨_, execTick_of_violation hrun hwords hbreak, takeViolation_fault _ s⟩

end Sys2Proof.Machine
end

section
/-!
PROOFS. RESET (70_reset_and_hazards.md R250, R251): `freshInstance` on the configuration there is.
-/

namespace Sys2Proof.Machine

theorem exec_reset (s : State) : exec .reset s = .next (freshInstance s.cfg s) := rfl

/-- Settles O42: RESET is `freshInstance` on the configuration there is, whose items have their reset values by
definition. -/
theorem resetRestoresEveryItem : Obligations.ResetRestoresEveryItem := exec_reset

end Sys2Proof.Machine
end
